-- ==== Sys2Proof/Word.lean ====
section
/-! DEFINITION. The word types of CHIP8-CORE and their plainest conversions (spec/00_scope.md R6, R7, R11). All values are
unsigned. -/

namespace Sys2Proof

/-- An 8-bit value: a general register, a memory byte, a timer, the immediate `NN`. -/
abbrev Byte := BitVec 8

/-- A 16-bit value: `PC`, `I`, a stack entry, an instruction word, the immediate `NNN` zero-extended. -/
abbrev Word16 := BitVec 16

/-- The number of a general register, 0 to 15 (10_state.md R20: a 4-bit field selects the register directly). -/
abbrev Reg := Fin 16

/-- A number of milliseconds, exact (10_state.md R31: `acc` is treated as a rational). -/
abbrev Millis := Rat

/-- Register 15, `VF`, which doubles as the flag (10_state.md R22). -/
def VF : Reg := 15

end Sys2Proof
end

