-- ==== Sys2Proof/Syntax.lean ====
section
/-! DEFINITION. The 34 instructions of spec/30_encoding.md R75, one constructor per row of the opcode table, in the table's
order. Operands are the fields of 00_scope.md R8: `x`, `y` register numbers, `nn` the immediate byte, `nnn` the 12-bit
address zero-extended to 16 bits, `n` the number of sprite rows. -/

namespace Sys2Proof

/-- An instruction of CHIP8-CORE. -/
inductive Instr where
  /-- 00E0 `CLS` -/
  | cls
  /-- 00EE `RET` -/
  | ret
  /-- 1NNN `JP NNN` -/
  | jp (nnn : Word16)
  /-- 2NNN `CALL NNN` -/
  | call (nnn : Word16)
  /-- 3XNN `SE VX, NN` -/
  | seImm (x : Reg) (nn : Byte)
  /-- 4XNN `SNE VX, NN` -/
  | sneImm (x : Reg) (nn : Byte)
  /-- 5XY0 `SE VX, VY` -/
  | seReg (x y : Reg)
  /-- 9XY0 `SNE VX, VY` -/
  | sneReg (x y : Reg)
  /-- 6XNN `LD VX, NN` -/
  | ldImm (x : Reg) (nn : Byte)
  /-- 7XNN `ADD VX, NN` -/
  | addImm (x : Reg) (nn : Byte)
  /-- 8XY0 `LD VX, VY` -/
  | ldReg (x y : Reg)
  /-- 8XY1 `OR VX, VY` -/
  | or (x y : Reg)
  /-- 8XY2 `AND VX, VY` -/
  | and (x y : Reg)
  /-- 8XY3 `XOR VX, VY` -/
  | xor (x y : Reg)
  /-- 8XY4 `ADD VX, VY` -/
  | addReg (x y : Reg)
  /-- 8XY5 `SUB VX, VY` -/
  | sub (x y : Reg)
  /-- 8XY6 `SHR VX, VY` -/
  | shr (x y : Reg)
  /-- 8XY7 `SUBN VX, VY` -/
  | subn (x y : Reg)
  /-- 8XYE `SHL VX, VY` -/
  | shl (x y : Reg)
  /-- ANNN `LD I, NNN` -/
  | ldI (nnn : Word16)
  /-- BNNN `JP V0, NNN` -/
  | jpV0 (nnn : Word16)
  /-- CXNN `RND VX, NN` -/
  | rnd (x : Reg) (nn : Byte)
  /-- DXYN `DRW VX, VY, N` -/
  | drw (x y : Reg) (n : Nat)
  /-- EX9E `SKP VX` -/
  | skp (x : Reg)
  /-- EXA1 `SKNP VX` -/
  | sknp (x : Reg)
  /-- FX07 `LD VX, DT` -/
  | ldDelay (x : Reg)
  /-- FX0A `LD VX, K` -/
  | waitKey (x : Reg)
  /-- FX15 `LD DT, VX` -/
  | setDelay (x : Reg)
  /-- FX18 `LD ST, VX` -/
  | setSound (x : Reg)
  /-- FX1E `ADD I, VX` -/
  | addI (x : Reg)
  /-- FX29 `LD F, VX` -/
  | ldFont (x : Reg)
  /-- FX33 `LD B, VX` -/
  | storeBcd (x : Reg)
  /-- FX55 `LD [I], VX` -/
  | storeRegs (x : Reg)
  /-- FX65 `LD VX, [I]` -/
  | loadRegs (x : Reg)
  deriving DecidableEq, Repr

/-- A row of the opcode table (30_encoding.md R75): a word `op` is the instruction of the row exactly when
`op &&& mask = pattern` (the table's column `match`). -/
structure OpcodeRow where
  mnemonic : String
  mask : Word16
  pattern : Word16
  deriving DecidableEq, Repr

end Sys2Proof
end

