-- ==== Sys2Proof/WellFormed.lean ====
section
/-! DEFINITION. Which terms of `Instr` are instructions of the hardware: the operand widths of spec/30_encoding.md R71 and
R74 that the operand's type does not already fix. Register numbers and immediate bytes are right by their types. -/

namespace Sys2Proof

/-- `NNN` is a 12-bit field (30_encoding.md R71). -/
def fitsNNN (nnn : Word16) : Bool := nnn.toNat < 0x1000

/-- `N` is a 4-bit field, 0 to 15 sprite rows (30_encoding.md R71, R74). -/
def fitsN (n : Nat) : Bool := n < 16

/-- Every operand fits the field the encoding gives it. -/
def wellFormed : Instr → Bool
  | .cls => true
  | .ret => true
  | .jp nnn => fitsNNN nnn
  | .call nnn => fitsNNN nnn
  | .seImm _ _ => true
  | .sneImm _ _ => true
  | .seReg _ _ => true
  | .sneReg _ _ => true
  | .ldImm _ _ => true
  | .addImm _ _ => true
  | .ldReg _ _ => true
  | .or _ _ => true
  | .and _ _ => true
  | .xor _ _ => true
  | .addReg _ _ => true
  | .sub _ _ => true
  | .shr _ _ => true
  | .subn _ _ => true
  | .shl _ _ => true
  | .ldI nnn => fitsNNN nnn
  | .jpV0 nnn => fitsNNN nnn
  | .rnd _ _ => true
  | .drw _ _ n => fitsN n
  | .skp _ => true
  | .sknp _ => true
  | .ldDelay _ => true
  | .waitKey _ => true
  | .setDelay _ => true
  | .setSound _ => true
  | .addI _ => true
  | .ldFont _ => true
  | .storeBcd _ => true
  | .storeRegs _ => true
  | .loadRegs _ => true

end Sys2Proof
end

