-- ==== Sys2Proof/Decode.lean ====
section
/-! DEFINITION. The decoder (spec/30_encoding.md R71, R73), total on every word and on any bytes, the encoder written from the
same tables, and the opcode table of R75. -/

namespace Sys2Proof

/-- `class = op[15:12]` (30_encoding.md R71). -/
def opClass (op : Word16) : BitVec 4 := op.extractLsb' 12 4

/-- `X = op[11:8]`. -/
def fieldX (op : Word16) : Reg := (op.extractLsb' 8 4).toFin

/-- `Y = op[7:4]`. -/
def fieldY (op : Word16) : Reg := (op.extractLsb' 4 4).toFin

/-- `N = op[3:0]`. -/
def fieldN (op : Word16) : BitVec 4 := op.extractLsb' 0 4

/-- `NN = op[7:0]`. -/
def fieldNN (op : Word16) : Byte := op.extractLsb' 0 8

/-- `NNN = op[11:0]`, zero-extended to 16 bits (30_encoding.md R74). -/
def fieldNNN (op : Word16) : Word16 := (op.extractLsb' 0 12).setWidth 16

/-- Class 0 selects on the whole of `NNN` (30_encoding.md R73). -/
def decodeClass0 (op : Word16) : Option Instr :=
  if fieldNNN op = 0x0E0 then some .cls
  else if fieldNNN op = 0x0EE then some .ret
  else none

/-- Class 8 selects on `N`: 0 to 7 and 0xE are instructions (30_encoding.md R73). -/
def decodeClass8 (op : Word16) : Option Instr :=
  match fieldN op with
  | 0x0#4 => some (.ldReg (fieldX op) (fieldY op))
  | 0x1#4 => some (.or (fieldX op) (fieldY op))
  | 0x2#4 => some (.and (fieldX op) (fieldY op))
  | 0x3#4 => some (.xor (fieldX op) (fieldY op))
  | 0x4#4 => some (.addReg (fieldX op) (fieldY op))
  | 0x5#4 => some (.sub (fieldX op) (fieldY op))
  | 0x6#4 => some (.shr (fieldX op) (fieldY op))
  | 0x7#4 => some (.subn (fieldX op) (fieldY op))
  | 0xE#4 => some (.shl (fieldX op) (fieldY op))
  | _ => none

/-- Class E selects on `NN` (30_encoding.md R73). -/
def decodeClassE (op : Word16) : Option Instr :=
  match fieldNN op with
  | 0x9E#8 => some (.skp (fieldX op))
  | 0xA1#8 => some (.sknp (fieldX op))
  | _ => none

/-- Class F selects on `NN` (30_encoding.md R73). -/
def decodeClassF (op : Word16) : Option Instr :=
  match fieldNN op with
  | 0x07#8 => some (.ldDelay (fieldX op))
  | 0x0A#8 => some (.waitKey (fieldX op))
  | 0x15#8 => some (.setDelay (fieldX op))
  | 0x18#8 => some (.setSound (fieldX op))
  | 0x1E#8 => some (.addI (fieldX op))
  | 0x29#8 => some (.ldFont (fieldX op))
  | 0x33#8 => some (.storeBcd (fieldX op))
  | 0x55#8 => some (.storeRegs (fieldX op))
  | 0x65#8 => some (.loadRegs (fieldX op))
  | _ => none

/-- `decode(op)` (30_encoding.md R73; 40_instruction_cycle.md R93): the instruction of the word, or `none`, which is the
spec's UNMATCHED. -/
def decode (op : Word16) : Option Instr :=
  match opClass op with
  | 0x0#4 => decodeClass0 op
  | 0x1#4 => some (.jp (fieldNNN op))
  | 0x2#4 => some (.call (fieldNNN op))
  | 0x3#4 => some (.seImm (fieldX op) (fieldNN op))
  | 0x4#4 => some (.sneImm (fieldX op) (fieldNN op))
  | 0x5#4 => if fieldN op = 0 then some (.seReg (fieldX op) (fieldY op)) else none
  | 0x6#4 => some (.ldImm (fieldX op) (fieldNN op))
  | 0x7#4 => some (.addImm (fieldX op) (fieldNN op))
  | 0x8#4 => decodeClass8 op
  | 0x9#4 => if fieldN op = 0 then some (.sneReg (fieldX op) (fieldY op)) else none
  | 0xA#4 => some (.ldI (fieldNNN op))
  | 0xB#4 => some (.jpV0 (fieldNNN op))
  | 0xC#4 => some (.rnd (fieldX op) (fieldNN op))
  | 0xD#4 => some (.drw (fieldX op) (fieldY op) (fieldN op).toNat)
  | 0xE#4 => decodeClassE op
  | 0xF#4 => decodeClassF op
  | _ => none

/-- What the decoder makes of a string of bytes. -/
inductive Decoded where
  /-- The first two bytes are the instruction, the rest follows it. -/
  | instr (i : Instr) (rest : List Byte)
  /-- The first two bytes are the unmatched word `op` (30_encoding.md R77). -/
  | unmatched (op : Word16) (rest : List Byte)
  /-- Fewer than the two bytes of an instruction (30_encoding.md R70). -/
  | truncated
  deriving DecidableEq, Repr

/-- The word of two consecutive bytes, the one at the lower address the high byte (20_memory.md R52). -/
def wordOf (hi lo : Byte) : Word16 := hi ++ lo

/-- Decoding of bytes: every instruction is two bytes, the high byte first (30_encoding.md R70). -/
def decodeBytes : List Byte → Decoded
  | hi :: lo :: rest =>
    match decode (wordOf hi lo) with
    | some i => .instr i rest
    | none => .unmatched (wordOf hi lo) rest
  | _ => .truncated

/-- The high byte of a word. -/
def highByte (w : Word16) : Byte := w.extractLsb' 8 8

/-- The low byte of a word. -/
def lowByte (w : Word16) : Byte := w.extractLsb' 0 8

/-- The instruction the decoder reads from the word `w` of `nbits` bits (bits above `nbits` zero), laid out as memory holds
it: the high byte first (20_memory.md R52). -/
def decodeTableWord (nbits w : Nat) : Option Instr :=
  match decodeBytes [highByte (BitVec.ofNat 16 (w % 2 ^ nbits)), lowByte (BitVec.ofNat 16 (w % 2 ^ nbits))] with
  | .instr i _ => some i
  | .unmatched _ _ => none
  | .truncated => none

/-- Format NNN (30_encoding.md R72): class, then the 12 low bits of `nnn`. -/
def packNNN (c : BitVec 4) (nnn : Word16) : Word16 := c ++ nnn.setWidth 12

/-- Format XNN, and format X with its literal digits as `nn` (30_encoding.md R72). -/
def packXNN (c : BitVec 4) (x : Reg) (nn : Byte) : Word16 := c ++ (BitVec.ofFin (w := 4) x ++ nn)

/-- Format XYN, and format XY with its sub-operation as `n` (30_encoding.md R72). -/
def packXYN (c : BitVec 4) (x y : Reg) (n : BitVec 4) : Word16 :=
  c ++ (BitVec.ofFin (w := 4) x ++ (BitVec.ofFin (w := 4) y ++ n))

/-- The word of an instruction (30_encoding.md R72, R75). -/
def encode : Instr → Word16
  | .cls => 0x00E0
  | .ret => 0x00EE
  | .jp nnn => packNNN 0x1 nnn
  | .call nnn => packNNN 0x2 nnn
  | .seImm x nn => packXNN 0x3 x nn
  | .sneImm x nn => packXNN 0x4 x nn
  | .seReg x y => packXYN 0x5 x y 0x0
  | .sneReg x y => packXYN 0x9 x y 0x0
  | .ldImm x nn => packXNN 0x6 x nn
  | .addImm x nn => packXNN 0x7 x nn
  | .ldReg x y => packXYN 0x8 x y 0x0
  | .or x y => packXYN 0x8 x y 0x1
  | .and x y => packXYN 0x8 x y 0x2
  | .xor x y => packXYN 0x8 x y 0x3
  | .addReg x y => packXYN 0x8 x y 0x4
  | .sub x y => packXYN 0x8 x y 0x5
  | .shr x y => packXYN 0x8 x y 0x6
  | .subn x y => packXYN 0x8 x y 0x7
  | .shl x y => packXYN 0x8 x y 0xE
  | .ldI nnn => packNNN 0xA nnn
  | .jpV0 nnn => packNNN 0xB nnn
  | .rnd x nn => packXNN 0xC x nn
  | .drw x y n => packXYN 0xD x y (BitVec.ofNat 4 n)
  | .skp x => packXNN 0xE x 0x9E
  | .sknp x => packXNN 0xE x 0xA1
  | .ldDelay x => packXNN 0xF x 0x07
  | .waitKey x => packXNN 0xF x 0x0A
  | .setDelay x => packXNN 0xF x 0x15
  | .setSound x => packXNN 0xF x 0x18
  | .addI x => packXNN 0xF x 0x1E
  | .ldFont x => packXNN 0xF x 0x29
  | .storeBcd x => packXNN 0xF x 0x33
  | .storeRegs x => packXNN 0xF x 0x55
  | .loadRegs x => packXNN 0xF x 0x65

/-- The row of the opcode table each instruction belongs to (30_encoding.md R75). -/
def rowOf : Instr → OpcodeRow
  | .cls => ⟨"00E0", 0xFFFF, 0x00E0⟩
  | .ret => ⟨"00EE", 0xFFFF, 0x00EE⟩
  | .jp _ => ⟨"1NNN", 0xF000, 0x1000⟩
  | .call _ => ⟨"2NNN", 0xF000, 0x2000⟩
  | .seImm _ _ => ⟨"3XNN", 0xF000, 0x3000⟩
  | .sneImm _ _ => ⟨"4XNN", 0xF000, 0x4000⟩
  | .seReg _ _ => ⟨"5XY0", 0xF00F, 0x5000⟩
  | .sneReg _ _ => ⟨"9XY0", 0xF00F, 0x9000⟩
  | .ldImm _ _ => ⟨"6XNN", 0xF000, 0x6000⟩
  | .addImm _ _ => ⟨"7XNN", 0xF000, 0x7000⟩
  | .ldReg _ _ => ⟨"8XY0", 0xF00F, 0x8000⟩
  | .or _ _ => ⟨"8XY1", 0xF00F, 0x8001⟩
  | .and _ _ => ⟨"8XY2", 0xF00F, 0x8002⟩
  | .xor _ _ => ⟨"8XY3", 0xF00F, 0x8003⟩
  | .addReg _ _ => ⟨"8XY4", 0xF00F, 0x8004⟩
  | .sub _ _ => ⟨"8XY5", 0xF00F, 0x8005⟩
  | .shr _ _ => ⟨"8XY6", 0xF00F, 0x8006⟩
  | .subn _ _ => ⟨"8XY7", 0xF00F, 0x8007⟩
  | .shl _ _ => ⟨"8XYE", 0xF00F, 0x800E⟩
  | .ldI _ => ⟨"ANNN", 0xF000, 0xA000⟩
  | .jpV0 _ => ⟨"BNNN", 0xF000, 0xB000⟩
  | .rnd _ _ => ⟨"CXNN", 0xF000, 0xC000⟩
  | .drw _ _ _ => ⟨"DXYN", 0xF000, 0xD000⟩
  | .skp _ => ⟨"EX9E", 0xF0FF, 0xE09E⟩
  | .sknp _ => ⟨"EXA1", 0xF0FF, 0xE0A1⟩
  | .ldDelay _ => ⟨"FX07", 0xF0FF, 0xF007⟩
  | .waitKey _ => ⟨"FX0A", 0xF0FF, 0xF00A⟩
  | .setDelay _ => ⟨"FX15", 0xF0FF, 0xF015⟩
  | .setSound _ => ⟨"FX18", 0xF0FF, 0xF018⟩
  | .addI _ => ⟨"FX1E", 0xF0FF, 0xF01E⟩
  | .ldFont _ => ⟨"FX29", 0xF0FF, 0xF029⟩
  | .storeBcd _ => ⟨"FX33", 0xF0FF, 0xF033⟩
  | .storeRegs _ => ⟨"FX55", 0xF0FF, 0xF055⟩
  | .loadRegs _ => ⟨"FX65", 0xF0FF, 0xF065⟩

/-- Whether a word is an instruction of a row: `(op & mask) == match` (30_encoding.md R75). -/
def OpcodeRow.fits (row : OpcodeRow) (op : Word16) : Bool := op &&& row.mask == row.pattern

/-- The opcode table, in the order of 30_encoding.md R75. -/
def opcodeTable : List OpcodeRow :=
  [rowOf .cls, rowOf .ret, rowOf (.jp 0), rowOf (.call 0), rowOf (.seImm 0 0), rowOf (.sneImm 0 0)] ++
  [rowOf (.seReg 0 0), rowOf (.sneReg 0 0), rowOf (.ldImm 0 0), rowOf (.addImm 0 0), rowOf (.ldReg 0 0)] ++
  [rowOf (.or 0 0), rowOf (.and 0 0), rowOf (.xor 0 0), rowOf (.addReg 0 0), rowOf (.sub 0 0)] ++
  [rowOf (.shr 0 0), rowOf (.subn 0 0), rowOf (.shl 0 0), rowOf (.ldI 0), rowOf (.jpV0 0)] ++
  [rowOf (.rnd 0 0), rowOf (.drw 0 0 0), rowOf (.skp 0), rowOf (.sknp 0), rowOf (.ldDelay 0)] ++
  [rowOf (.waitKey 0), rowOf (.setDelay 0), rowOf (.setSound 0), rowOf (.addI 0), rowOf (.ldFont 0)] ++
  [rowOf (.storeBcd 0), rowOf (.storeRegs 0), rowOf (.loadRegs 0)]

end Sys2Proof
end

