-- ==== Sys2Proof/Config.lean ====
section
/-! DEFINITION. What an implementation fixes (spec/00_scope.md R5) and the free values: the inputs the host gives each
step. -/

namespace Sys2Proof

/-- Elapsed time of one step, the input `delta`: a non-negative number of milliseconds (60_exceptions.md R212). -/
structure Elapsed where
  ms : Millis := 0
  nonneg : 0 ≤ ms := by decide
  deriving DecidableEq, Repr, Inhabited

/-- One turn of the host: what it does between two steps and what it supplies to the step that follows
(60_exceptions.md R218). -/
structure HostTurn where
  /-- The value the host writes to the key buffer before the step, if it writes one (R220). -/
  keys : Option (Vector Bool 16)
  /-- Whether the host clears `drawFlag` before the step (R219). -/
  clearDraw : Bool
  /-- The elapsed time since the previous step (R212). -/
  delta : Elapsed
  /-- The random byte of the step (R222). -/
  rnd : Byte
  deriving DecidableEq, Repr, Inhabited

/-- The turn in which the host writes nothing, no time passes and the random byte is 0: for tests. -/
def HostTurn.quiet : HostTurn := { keys := none, clearDraw := false, delta := {}, rnd := 0 }

/-- DESIGN CHOICE (notes/assumptions/2.md), safe. The free value: what the host does at its `n`-th turn where
`State.inputs` does not say it. It has no body, so nothing can be proved of it. -/
opaque Config.hostTurn : Nat → HostTurn

/-- The identification string (00_scope.md R1, decision D32). -/
def Config.ident : String := "CHIP-8/DAlexFunk"

/-- `ROM_BASE`, where the program is loaded (00_scope.md R5). -/
def Config.romBase : Nat := 0x200

/-- `RESET_PC` (00_scope.md R5). -/
def Config.resetPc : Word16 := 0x200

/-- `FONT_GLYPH_BYTES` (00_scope.md R5). -/
def Config.glyphBytes : Nat := 5

/-- The default of `FONT_DATA`, the 80 bytes from address 0 (20_memory.md R58). PRESUMED by the spec itself (its GK1, decision
D13; notes/assumptions/6.md), unsafe for claims about which pixels a glyph lights. -/
def Config.fontBytes : List Byte :=
  [0xF0, 0x90, 0x90, 0x90, 0xF0] ++ [0x20, 0x60, 0x20, 0x20, 0x70] ++
  [0xF0, 0x10, 0xF0, 0x80, 0xF0] ++ [0xF0, 0x10, 0xF0, 0x10, 0xF0] ++
  [0x90, 0x90, 0xF0, 0x10, 0x10] ++ [0xF0, 0x80, 0xF0, 0x10, 0xF0] ++
  [0xF0, 0x80, 0xF0, 0x90, 0xF0] ++ [0xF0, 0x10, 0x20, 0x40, 0x40] ++
  [0xF0, 0x90, 0xF0, 0x90, 0xF0] ++ [0xF0, 0x90, 0xF0, 0x10, 0xF0] ++
  [0xF0, 0x90, 0xF0, 0x90, 0x90] ++ [0xE0, 0x90, 0xE0, 0x90, 0xE0] ++
  [0xF0, 0x80, 0x80, 0x80, 0xF0] ++ [0xE0, 0x90, 0x90, 0x90, 0xE0] ++
  [0xF0, 0x80, 0xF0, 0x80, 0xF0] ++ [0xF0, 0x80, 0xF0, 0x80, 0x80]

/-- The default of `TIMER_PERIOD_MS`: 1000/60 ms in lowest terms, 50/3 (decision D14; notes/assumptions/7.md). -/
def Config.sixtyHertz : Millis := { num := 50, den := 3, reduced := by norm_num }

/-- The parameters of the hardware, each with the spec's default (00_scope.md R5; 92_eei_decisions.md, "Open parameters, in one
place"). A machine carries them in its state, and no step changes them (DESIGN CHOICE, notes/assumptions/24.md), safe. -/
structure Params where
  /-- `M`, the memory size in bytes (decision D1; notes/assumptions/5.md). -/
  memSize : Nat := 4096
  /-- `FONT_DATA` (20_memory.md R58, decision D13; notes/assumptions/6.md). -/
  fontData : Vector Byte 80 := ⟨Config.fontBytes.toArray, rfl⟩
  /-- `TIMER_PERIOD_MS`, by default exactly 1000/60 ms (decision D14; notes/assumptions/7.md). -/
  timerPeriod : Millis := Config.sixtyHertz
  /-- `DELTA_CLAMP_MS` (60_exceptions.md R213; notes/assumptions/7.md). -/
  deltaClamp : Millis := 100
  /-- `TICKS_MAX`, the bound on the ticks of a step (60_exceptions.md R215, decision D14). -/
  ticksMax : Nat := 7
  /-- `INSTRUCTION_RATE`, steps per second: open, no default, so `none`; no rule reads it (decision D26;
  notes/assumptions/19.md). -/
  instructionRate : Option Rat := none
  /-- `CYCLES_PER_FRAME`, steps per video frame: open, no default, so `none`; no rule reads it (decision D26;
  notes/assumptions/19.md). -/
  cyclesPerFrame : Option Nat := none
  deriving DecidableEq, Repr

/-- Parameters that describe a core: `ROM_BASE` lies in memory or at its end, `M` is at most 65536 (49_memory_transfer.md R177),
the period is positive, the clamp is not negative, and `TICKS_MAX` is at least the bound of 60_exceptions.md R215. -/
def Params.ok (p : Params) : Prop :=
  (Config.romBase ≤ p.memSize ∧ p.memSize ≤ 65536) ∧ 0 < p.timerPeriod ∧ 0 ≤ p.deltaClamp ∧
    1 + (p.deltaClamp / p.timerPeriod).floor ≤ p.ticksMax

/-- What memory holds at `a` right after reset: the font in its first 80 bytes, 0 elsewhere (10_state.md R27,
70_reset_and_hazards.md R230). -/
def Params.resetByte (p : Params) (a : Nat) : Byte := p.fontData[a]?.getD 0

end Sys2Proof
end

