-- ==== Sys2Proof/Machine/State.lean ====
section
/-! DEFINITION. The state of CHIP8-CORE as plain data (spec/10_state.md R20 to R37), its reset value (70_reset_and_hazards.md
R230), and the reasons a step can stop. -/

namespace Sys2Proof.Machine

/-- A record of the `fault` register (60_exceptions.md R200): the fault's name, `pc0`, the address of the instruction, and the
second value where the fault has one. -/
inductive FaultRecord where
  /-- The fetch of any step, when `pc0 + 1 >= M`. -/
  | fetchOutOfBounds (pc0 : Word16)
  /-- 2NNN with `sp = 16`. -/
  | stackOverflow (pc0 : Word16)
  /-- 00EE with `sp = 0`. -/
  | stackUnderflow (pc0 : Word16)
  /-- DXYN, FX33, FX55, FX65 whose last address is `M` or more. -/
  | memoryOutOfBounds (pc0 : Word16) (last : Nat)
  /-- EX9E, EXA1 with `V[X] > 15`. -/
  | keyIndexOutOfRange (pc0 : Word16) (index : Byte)
  deriving DecidableEq, Repr

/-- The non-fatal report `UnknownOpcode(addr, op)` (60_exceptions.md R205). -/
structure Report where
  addr : Word16
  op : Word16
  deriving DecidableEq, Repr

/-- Why the machine stops. -/
inductive Fault where
  /-- Raised by `step` alone, in a state whose `fault` register holds `record`: a faulted core has no step
  (40_instruction_cycle.md R97; 60_exceptions.md R202). Safe: the spec gives it no step either. -/
  | stopped (record : FaultRecord)
  deriving DecidableEq, Repr

/-- Why the model declines. -/
inductive Refusal where
  /-- An instruction without a meaning, by its mnemonic: raised by no arm of `exec`, every instruction has its meaning. Safe. -/
  | notModelled (mnemonic : String)
  /-- Raised by `State.loadProgram` alone, for an image longer than `M - 0x200` bytes: the host must not start
  (70_reset_and_hazards.md R233). Safe. -/
  | romTooLarge (length : Nat)
  deriving DecidableEq, Repr

/-- The display buffer: 32 rows of 64 one-bit pixels, row 0 the top. Column 0 is the most significant bit of its row: the
storage is not architectural (10_state.md R28; notes/assumptions/12.md), safe. -/
abbrev Display := Vector (BitVec 64) 32

/-- The whole state of the core (10_state.md R37), then the model's own four fields. -/
structure State where
  /-- `V[0]` to `V[15]` (R20). -/
  v : Vector Byte 16
  /-- `PC` (R23). -/
  pc : Word16
  /-- `I`, the index register (R24). -/
  i : Word16
  /-- `stack[0]` to `stack[15]` (R25). -/
  stack : Vector Word16 16
  /-- `sp`, 0 to 16 (R26). -/
  sp : Fin 17
  /-- `Mem` (R27): the bytes that differ from their reset contents, addresses strictly rising. -/
  mem : List Host.Cell
  /-- `display[y][x]` (R28). -/
  display : Display
  /-- `key[0]` to `key[15]` (R29): true is pressed. -/
  key : Vector Bool 16
  /-- `DT`, the delay timer (R30). -/
  dt : Byte
  /-- `ST`, the sound timer (R30). -/
  st : Byte
  /-- `acc`, the timing accumulator, in milliseconds (R31). -/
  acc : Millis
  /-- `drawFlag` (R32). -/
  drawFlag : Bool
  /-- `soundFlag` (R33). -/
  soundFlag : Bool
  /-- `fault`: `none` is NONE (R35). -/
  fault : Option FaultRecord
  /-- The model's own: the reports emitted so far, oldest first (60_exceptions.md R205; notes/assumptions/4.md). -/
  reports : List Report
  /-- The model's own: the host's coming turns, the next one first (notes/assumptions/2.md). -/
  inputs : List HostTurn
  /-- The model's own: how many host turns have been used (notes/assumptions/2.md). -/
  turnNo : Nat
  /-- The model's own: the parameters of the hardware, fixed for a machine (00_scope.md R5; notes/assumptions/24.md). -/
  params : Params
  deriving DecidableEq, Repr

/-- `Reset()` of a core with the parameters `p` (70_reset_and_hazards.md R230). Memory lists nothing: an unlisted byte reads as
its reset contents. `reports`, `inputs` and `turnNo` are the model's own (DESIGN CHOICE, notes/assumptions/3.md), unsafe only for
a claim about a run from reset that leans on the host's turns. -/
def State.resetWith (p : Params) : State where
  v := Vector.replicate 16 0
  pc := Config.resetPc
  i := 0
  stack := Vector.replicate 16 0
  sp := 0
  mem := []
  display := Vector.replicate 32 0
  key := Vector.replicate 16 false
  dt := 0
  st := 0
  acc := 0
  drawFlag := false
  soundFlag := false
  fault := none
  reports := []
  inputs := []
  turnNo := 0
  params := p

/-- The state right after reset, with the spec's defaults for every parameter (00_scope.md R5). -/
def State.reset : State := State.resetWith {}

/-- What a step, a meaning or a ROM load answers. -/
abbrev Outcome := Host.Outcome State Fault Refusal

end Sys2Proof.Machine
end

