-- ==== Sys2Proof/Machine/Memory.lean ====
section
/-! DEFINITION. Memory as a list of the bytes that differ from their reset contents (spec/20_memory.md R50, R51, R56): reading
one byte, writing one byte, and the canonical form every operation keeps. -/

namespace Sys2Proof.Machine

/-- The byte at `a`: what the list says, else the reset contents (20_memory.md R51). -/
def memRead (p : Params) : List Host.Cell → Nat → Byte
  | [], a => p.resetByte a
  | cell :: m, a => if cell.1 = a then cell.2 else memRead p m a

/-- The list with `a` listed as `b`, in its place. -/
def memInsert : List Host.Cell → Nat → Byte → List Host.Cell
  | [], a, b => [(a, b)]
  | cell :: m, a, b =>
    if a < cell.1 then (a, b) :: cell :: m
    else if a = cell.1 then (a, b) :: m
    else cell :: memInsert m a b

/-- The list with `a` not listed. -/
def memErase : List Host.Cell → Nat → List Host.Cell
  | [], _ => []
  | cell :: m, a => if cell.1 = a then memErase m a else cell :: memErase m a

/-- `MemWrite(a, 1, b)` (20_memory.md R51). An address of `M` or more is no byte of memory: nothing is written there, and every
instruction tests its range before it writes. -/
def memWrite (p : Params) (m : List Host.Cell) (a : Nat) (b : Byte) : List Host.Cell :=
  if a < p.memSize then
    if b = p.resetByte a then memErase m a else memInsert m a b
  else m

/-- The canonical form from address `lo` upward: addresses rise strictly and lie below `M`, and no entry equals the reset
contents. -/
def memWfFrom (p : Params) : Nat → List Host.Cell → Bool
  | _, [] => true
  | lo, cell :: m =>
    decide (lo ≤ cell.1) && decide (cell.1 < p.memSize) && cell.2 != p.resetByte cell.1 && memWfFrom p (cell.1 + 1) m

/-- The canonical form of memory. -/
def Memory.wf (p : Params) (m : List Host.Cell) : Bool := memWfFrom p 0 m

/-- The `n` bytes from address `a` upward, lowest first (20_memory.md R53). -/
def memReadBytes (p : Params) (m : List Host.Cell) (a n : Nat) : List Byte := (List.range n).map fun k => memRead p m (a + k)

/-- The bytes written from address `a` upward, lowest first (20_memory.md R53). -/
def memWriteBytes (p : Params) : List Host.Cell → Nat → List Byte → List Host.Cell
  | m, _, [] => m
  | m, a, b :: bs => memWriteBytes p (memWrite p m a b) (a + 1) bs

/-- An access whose last address is `last` stays in memory (20_memory.md R51). -/
def inMemory (p : Params) (last : Nat) : Bool := last < p.memSize

end Sys2Proof.Machine
end

