-- ==== Sys2Proof/Machine/Ops.lean ====
section
/-! DEFINITION. The named operations on registers, the stack and memory; fetching; taking a fault (spec/60_exceptions.md R201,
from which there is no return but reset, R203); the unmatched opcode; the timer update that ends a step. -/

namespace Sys2Proof.Machine

/-- Reading `V[r]` (10_state.md R20). -/
def State.getV (s : State) (r : Reg) : Byte := s.v[r.val]

/-- `V[r] <- b` (10_state.md R20): no register is hard-wired. -/
def State.setV (s : State) (r : Reg) (b : Byte) : State := { s with v := s.v.set r.val b }

/-- `PC <- a`. -/
def State.setPc (s : State) (a : Word16) : State := { s with pc := a }

/-- `I <- a`. -/
def State.setI (s : State) (a : Word16) : State := { s with i := a }

/-- `DT <- b`. -/
def State.setDt (s : State) (b : Byte) : State := { s with dt := b }

/-- `ST <- b`. -/
def State.setSt (s : State) (b : Byte) : State := { s with st := b }

/-- The memory replaced. -/
def State.setMem (s : State) (m : List Host.Cell) : State := { s with mem := m }

/-- The display buffer replaced. -/
def State.setDisplay (s : State) (d : Display) : State := { s with display := d }

/-- `drawFlag <- f`. -/
def State.setDrawFlag (s : State) (f : Bool) : State := { s with drawFlag := f }

/-- The key buffer written: the host's move (60_exceptions.md R220). -/
def State.writeKeys (s : State) (k : Vector Bool 16) : State := { s with key := k }

/-- The pre-advance of `PC`, modulo 65536 (40_instruction_cycle.md R92). A meaning takes the state with `PC = pc0` and applies
it itself, so that a fault has nothing to undo (notes/assumptions/13.md). -/
def State.advance (s : State) : State := s.setPc (s.pc + 2)

/-- A skip: 2 more on the pre-advanced `PC` (40_instruction_cycle.md R92 (c)). -/
def State.skipIf (s : State) (c : Bool) : State := s.setPc (if c then s.pc + 2 else s.pc)

/-- Taking a fault (60_exceptions.md R201): `fault` takes the record and nothing else of the state before the step changes. -/
def State.raise (s : State) (r : FaultRecord) : State := { s with fault := some r }

/-- `stack[sp] <- a; sp <- sp + 1`, for a stack that is not full (41_flow.md R102). -/
def State.push (s : State) (a : Word16) (h : s.sp.val < 16) : State :=
  { s with stack := s.stack.set s.sp.val a, sp := ⟨s.sp.val + 1, by omega⟩ }

/-- `sp <- sp - 1; PC <- stack[sp]`, for a stack that is not empty; the entry keeps its value (41_flow.md R100). -/
def State.popPc (s : State) (h : 0 < s.sp.val) : State :=
  { s with pc := s.stack[s.sp.val - 1]'(by omega), sp := ⟨s.sp.val - 1, by omega⟩ }

/-- The byte at `a` (20_memory.md R51). -/
def State.readByte (s : State) (a : Nat) : Byte := memRead s.params s.mem a

/-- The `n` bytes from `I` upward (20_memory.md R53). -/
def State.readAtI (s : State) (n : Nat) : List Byte := memReadBytes s.params s.mem s.i.toNat n

/-- The bytes written from `I` upward (20_memory.md R53). -/
def State.writeAtI (s : State) (bs : List Byte) : State := s.setMem (memWriteBytes s.params s.mem s.i.toNat bs)

/-- The registers from number `k` upward take the bytes of the list, in order. -/
def setRegsFrom : Nat → List Byte → Vector Byte 16 → Vector Byte 16
  | _, [], v => v
  | k, b :: bs, v => setRegsFrom (k + 1) bs (v.setIfInBounds k b)

/-- `V[0]`, `V[1]`, ... take the bytes of the list, in order (49_memory_transfer.md R178). -/
def State.setRegs (s : State) (bs : List Byte) : State := { s with v := setRegsFrom 0 bs s.v }

/-- `Fetch16(PC)`, high byte first, or `none` where `pc0 + 1 >= M` (40_instruction_cycle.md R91; 20_memory.md R52). -/
def State.fetch (s : State) : Option Word16 :=
  if inMemory s.params (s.pc.toNat + 1) then
    some (wordOf (s.readByte s.pc.toNat) (s.readByte (s.pc.toNat + 1)))
  else none

/-- The fetch that leaves memory (40_instruction_cycle.md R91). -/
def State.raiseFetch (s : State) : State := s.raise (.fetchOutOfBounds s.pc)

/-- The handler phase of an unmatched word: `PC` advanced, one report, nothing else (40_instruction_cycle.md R96). -/
def State.unmatched (s : State) (op : Word16) : State :=
  { s with pc := s.pc + 2, reports := s.reports ++ [{ addr := s.pc, op := op }] }

/-- The host turn of the coming step: the next listed one, else a free value (notes/assumptions/2.md). -/
def State.turn (s : State) : HostTurn :=
  match s.inputs with
  | t :: _ => t
  | [] => Config.hostTurn s.turnNo

/-- What the host does before the step: it may write the key buffer and may clear `drawFlag`, nothing else
(60_exceptions.md R218 to R220). -/
def State.hostMoves (s : State) : State :=
  { s with key := s.turn.keys.getD s.key, drawFlag := s.drawFlag && !s.turn.clearDraw }

/-- The turn is used up. -/
def State.nextTurn (s : State) : State := { s with inputs := s.inputs.tail, turnNo := s.turnNo + 1 }

/-- One tick of one timer: one toward 0, never below (60_exceptions.md R214). -/
def tick (t : Byte) : Byte := if t = 0 then 0 else t - 1

/-- A timer after `k` ticks. -/
def ticks : Nat → Byte → Byte
  | 0, t => t
  | k + 1, t => ticks k (tick t)

/-- `acc + min(delta, DELTA_CLAMP_MS)` (60_exceptions.md R213). -/
def accPlus (p : Params) (acc : Millis) (delta : Elapsed) : Millis := acc + min delta.ms p.deltaClamp

/-- The number of ticks of a step, `floor((acc_before + d) / TIMER_PERIOD_MS)` (60_exceptions.md R213). -/
def tickCount (p : Params) (acc : Millis) (delta : Elapsed) : Nat := (accPlus p acc delta / p.timerPeriod).floor.toNat

/-- The remainder carried to the next step, `acc_before + d - k * TIMER_PERIOD_MS` (60_exceptions.md R213). -/
def accAfter (p : Params) (acc : Millis) (delta : Elapsed) : Millis :=
  accPlus p acc delta - (tickCount p acc delta : Millis) * p.timerPeriod

/-- `TimerUpdate(delta)` (60_exceptions.md R213, R214), with the `delta` of the host turn of the step. -/
def State.timerUpdate (s : State) : State :=
  { s with
    dt := ticks (tickCount s.params s.acc s.turn.delta) s.dt
    st := ticks (tickCount s.params s.acc s.turn.delta) s.st
    acc := accAfter s.params s.acc s.turn.delta }

/-- The end of a step: the timer update, unless the step took a fault (40_instruction_cycle.md R95; 60_exceptions.md R201). -/
def State.endStep (s : State) : State :=
  match s.fault with
  | none => s.timerUpdate.nextTurn
  | some _ => s

/-- The end of a step after its handler. -/
def endOutcome : Outcome → Outcome
  | .next s => .next s.endStep
  | .fault r => .fault r
  | .refused r => .refused r

end Sys2Proof.Machine
end

