-- ==== Sys2Proof/Machine/Operands.lean ====
section
/-! DEFINITION. The operand forms (spec/30_encoding.md R74; 49_memory_transfer.md R179): the address reached through `I`, the
start coordinates of a sprite, the key a register names, and the display's pixels. -/

namespace Sys2Proof.Machine

/-- The last address of an access of `n` bytes at `I`, for `n > 0`, computed without wrap-around (20_memory.md R51). -/
def State.lastAddress (s : State) (n : Nat) : Nat := s.i.toNat + (n - 1)

/-- An access of `n` bytes at `I` stays in memory; an access of no bytes touches none (46_display.md R152). -/
def State.fits (s : State) (n : Nat) : Bool := n == 0 || inMemory s.params (s.lastAddress n)

/-- The record of an access of `n` bytes at `I` that leaves memory (60_exceptions.md R200). -/
def State.memoryFault (s : State) (n : Nat) : FaultRecord := .memoryOutOfBounds s.pc (s.lastAddress n)

/-- `x0 = V[X] mod 64` (46_display.md R152). -/
def State.spriteColumn (s : State) (x : Reg) : Nat := (s.getV x).toNat % 64

/-- `y0 = V[Y] mod 32` (46_display.md R152). -/
def State.spriteRow (s : State) (y : Reg) : Nat := (s.getV y).toNat % 32

/-- `key[k]`, for a key number below 16 (10_state.md R29). -/
def State.keyDown (s : State) (k : Nat) : Bool := if h : k < 16 then s.key[k] else false

/-- The least pressed key, if any (47_keys.md R162). -/
def State.lowestKey (s : State) : Option Nat := (List.range 16).find? s.keyDown

/-- `display[y][x]` (10_state.md R28); no pixel lies outside the grid. -/
def pixel (d : Display) (x y : Nat) : Bool := if h : y < 32 then d[y].getMsbD x else false

/-- Pixel `(x, y)` flipped where `bit` is 1, for a pixel of the grid (46_display.md R152: the XOR). -/
def xorPixel (d : Display) (x y : Nat) (bit : Bool) : Display :=
  if h : y < 32 then d.set y (d[y] ^^^ ((BitVec.ofBool bit).setWidth 64 <<< (63 - x))) else d

/-- A display being drawn on, with the collision seen so far. -/
structure Canvas where
  display : Display
  hit : Bool
  deriving DecidableEq, Repr

/-- One sprite bit at `(x, y)`: clipped outside the grid; else a collision if the bit and the pixel are 1, and the XOR
(46_display.md R152). -/
def plot (x y : Nat) (bit : Bool) (c : Canvas) : Canvas :=
  if x < 64 ∧ y < 32 then
    { display := xorPixel c.display x y bit, hit := c.hit || (bit && pixel c.display x y) }
  else c

/-- One sprite byte at row `y`: column offset `k` is bit `7 - k` (46_display.md R151, R152). PRESUMED by the spec itself (its GK2
and GK3, decision D12; notes/assumptions/11.md), unsafe for claims about which pixels light. -/
def drawByte (x0 y : Nat) (b : Byte) (c : Canvas) : Canvas :=
  (List.range 8).foldl (fun c k => plot (x0 + k) y (b.getLsbD (7 - k)) c) c

/-- The sprite's bytes, each one row below the one before it (46_display.md R151, R152). -/
def drawSprite (x0 : Nat) : Nat → List Byte → Canvas → Canvas
  | _, [], c => c
  | y, b :: bs, c => drawSprite x0 (y + 1) bs (drawByte x0 y b c)

/-- The three decimal digits of a byte, hundreds first (49_memory_transfer.md R176). -/
def bcdDigits (b : Byte) : List Byte :=
  [BitVec.ofNat 8 (b.toNat / 100), BitVec.ofNat 8 (b.toNat / 10 % 10), BitVec.ofNat 8 (b.toNat % 10)]

end Sys2Proof.Machine
end

