-- ==== Sys2Proof/Machine/Flags.lean ====
section
/-! DEFINITION. The one flag, `VF`, and the arithmetic that sets it (spec/44_alu.md R125, R126): computed on integers, narrowed at
the end. -/

namespace Sys2Proof.Machine

/-- A flag as the byte `VF` takes: 0x01 or 0x00 (10_state.md R22). -/
def flagByte (f : Bool) : Byte := if f then 1 else 0

/-- `VF <- f`. -/
def State.setFlag (s : State) (f : Bool) : State := s.setV VF (flagByte f)

/-- A result and its flag: the result to `V[X]`, the flag to `VF` last, so that it wins when `X` is 0xF (44_alu.md R126; the
spec's decision D9 for 8XY5 and 8XY7, notes/assumptions/14.md). -/
def State.setResult (s : State) (x : Reg) (r : Byte × Bool) : State := (s.setV x r.1).setFlag r.2

/-- `a + b` and the carry (44_alu.md R125, R131). -/
def addFlag (a b : Byte) : Byte × Bool := (BitVec.ofNat 8 (a.toNat + b.toNat), decide (a.toNat + b.toNat > 255))

/-- `a - b` and the not-borrow (44_alu.md R125, R132). -/
def subFlag (a b : Byte) : Byte × Bool := (BitVec.ofInt 8 ((a.toNat : Int) - (b.toNat : Int)), decide (a.toNat ≥ b.toNat))

/-- `floor(b / 2)` and the bit shifted out at the bottom (44_alu.md R125, R133). -/
def shrFlag (b : Byte) : Byte × Bool := (BitVec.ofNat 8 (b.toNat / 2), b.getLsbD 0)

/-- `2 * b` and the bit shifted out at the top (44_alu.md R125, R135). -/
def shlFlag (b : Byte) : Byte × Bool := (BitVec.ofNat 8 (2 * b.toNat), b.getLsbD 7)

end Sys2Proof.Machine
end

