-- ==== Sys2Proof/Machine/Alu.lean ====
section
/-! DEFINITION. Register-to-register operations: 8XY0 to 8XY7, 8XYE (spec/44_alu.md). Both operands are read from the state before
the instruction, the flag is written last (R126). -/

namespace Sys2Proof.Machine

/-- 8XY0 (44_alu.md R127): no flag. -/
def execLdReg (x y : Reg) (s : State) : Outcome := .next (s.advance.setV x (s.getV y))

/-- 8XY1 (44_alu.md R128): `VF` is forced to 0. -/
def execOr (x y : Reg) (s : State) : Outcome := .next (s.advance.setResult x (s.getV x ||| s.getV y, false))

/-- 8XY2 (44_alu.md R129): `VF` is forced to 0. -/
def execAnd (x y : Reg) (s : State) : Outcome := .next (s.advance.setResult x (s.getV x &&& s.getV y, false))

/-- 8XY3 (44_alu.md R130): `VF` is forced to 0. -/
def execXor (x y : Reg) (s : State) : Outcome := .next (s.advance.setResult x (s.getV x ^^^ s.getV y, false))

/-- 8XY4 (44_alu.md R131). -/
def execAddReg (x y : Reg) (s : State) : Outcome := .next (s.advance.setResult x (addFlag (s.getV x) (s.getV y)))

/-- 8XY5 (44_alu.md R132). -/
def execSub (x y : Reg) (s : State) : Outcome := .next (s.advance.setResult x (subFlag (s.getV x) (s.getV y)))

/-- 8XY6 (44_alu.md R133): shifts `V[Y]`. -/
def execShr (x y : Reg) (s : State) : Outcome := .next (s.advance.setResult x (shrFlag (s.getV y)))

/-- 8XY7 (44_alu.md R134): `V[Y] - V[X]`. -/
def execSubn (x y : Reg) (s : State) : Outcome := .next (s.advance.setResult x (subFlag (s.getV y) (s.getV x)))

/-- 8XYE (44_alu.md R135): shifts `V[Y]`. -/
def execShl (x y : Reg) (s : State) : Outcome := .next (s.advance.setResult x (shlFlag (s.getV y)))

end Sys2Proof.Machine
end

