-- ==== Sys2Proof/Machine/Draw.lean ====
section
/-! DEFINITION. Display instructions: 00E0, DXYN (spec/46_display.md). -/

namespace Sys2Proof.Machine

/-- Every pixel 0. -/
def blankDisplay : Display := Vector.replicate 32 0

/-- 00E0 (46_display.md R150): `VF` and `drawFlag` keep their values. -/
def execCls (s : State) : Outcome := .next (s.advance.setDisplay blankDisplay)

/-- The drawing of DXYN: the sprite of `n` bytes at `I` on the display (46_display.md R152). -/
def State.drawn (s : State) (x y : Reg) (n : Nat) : Canvas :=
  drawSprite (s.spriteColumn x) (s.spriteRow y) (s.readAtI n) { display := s.display, hit := false }

/-- DXYN (46_display.md R152): the coordinates are those before the instruction, `VF` ends as the collision flag, `drawFlag` is
set whether or not a pixel changed. -/
def execDrw (x y : Reg) (n : Nat) (s : State) : Outcome :=
  .next (if s.fits n then
      (((s.advance.setFlag (s.drawn x y n).hit).setDisplay (s.drawn x y n).display).setDrawFlag true)
    else s.raise (s.memoryFault n))

end Sys2Proof.Machine
end

