-- ==== Sys2Proof/Machine/Flow.lean ====
section
/-! DEFINITION. Jumps, call and return: 00EE, 1NNN, 2NNN, BNNN (spec/41_flow.md). -/

namespace Sys2Proof.Machine

/-- 00EE (41_flow.md R100). -/
def execRet (s : State) : Outcome :=
  .next (if h : 0 < s.sp.val then s.popPc h else s.raise (.stackUnderflow s.pc))

/-- 1NNN (41_flow.md R101). -/
def execJp (nnn : Word16) (s : State) : Outcome := .next (s.setPc nnn)

/-- 2NNN (41_flow.md R102): the value pushed is the pre-advanced `PC`. -/
def execCall (nnn : Word16) (s : State) : Outcome :=
  .next (if h : s.sp.val < 16 then (s.push (s.pc + 2) h).setPc nnn else s.raise (.stackOverflow s.pc))

/-- BNNN (41_flow.md R103). -/
def execJpV0 (nnn : Word16) (s : State) : Outcome := .next (s.setPc ((s.getV 0).setWidth 16 + nnn))

end Sys2Proof.Machine
end

