-- ==== Sys2Proof/Machine/Immediate.lean ====
section
/-! DEFINITION. Load and add immediate: 6XNN, 7XNN (spec/43_load_add_immediate.md). -/

namespace Sys2Proof.Machine

/-- 6XNN (43_load_add_immediate.md R120). -/
def execLdImm (x : Reg) (nn : Byte) (s : State) : Outcome := .next (s.advance.setV x nn)

/-- 7XNN (43_load_add_immediate.md R121): modulo 256, no flag. -/
def execAddImm (x : Reg) (nn : Byte) (s : State) : Outcome := .next (s.advance.setV x (s.getV x + nn))

end Sys2Proof.Machine
end

