-- ==== Sys2Proof/Machine/Index.lean ====
section
/-! DEFINITION. The index register and the random byte: ANNN, CXNN, FX1E, FX29 (spec/45_index_random.md). -/

namespace Sys2Proof.Machine

/-- ANNN (45_index_random.md R140). -/
def execLdI (nnn : Word16) (s : State) : Outcome := .next (s.advance.setI nnn)

/-- CXNN (45_index_random.md R141): the random byte is the step's input `rnd`, in the host turn. -/
def execRnd (x : Reg) (nn : Byte) (s : State) : Outcome := .next (s.advance.setV x (s.turn.rnd &&& nn))

/-- FX1E (45_index_random.md R142): modulo 65536, no flag. -/
def execAddI (x : Reg) (s : State) : Outcome := .next (s.advance.setI (s.i + (s.getV x).setWidth 16))

/-- FX29 (45_index_random.md R143): the whole byte times 5, unmasked (conflict C1; notes/assumptions/14.md). -/
def execLdFont (x : Reg) (s : State) : Outcome :=
  .next (s.advance.setI (BitVec.ofNat 16 ((s.getV x).toNat * Config.glyphBytes)))

end Sys2Proof.Machine
end

