-- ==== Sys2Proof/Machine/Keys.lean ====
section
/-! DEFINITION. Key instructions: EX9E, EXA1, FX0A (spec/47_keys.md). -/

namespace Sys2Proof.Machine

/-- EX9E (47_keys.md R160). -/
def execSkp (x : Reg) (s : State) : Outcome :=
  .next (if (s.getV x).toNat > 15 then s.raise (.keyIndexOutOfRange s.pc (s.getV x))
    else s.advance.skipIf (s.keyDown (s.getV x).toNat))

/-- EXA1 (47_keys.md R161). -/
def execSknp (x : Reg) (s : State) : Outcome :=
  .next (if (s.getV x).toNat > 15 then s.raise (.keyIndexOutOfRange s.pc (s.getV x))
    else s.advance.skipIf (!s.keyDown (s.getV x).toNat))

/-- FX0A (47_keys.md R162): the lowest pressed key, or `PC` rewound by 2 to the same instruction. -/
def execWaitKey (x : Reg) (s : State) : Outcome :=
  .next (match s.lowestKey with
    | some k => s.advance.setV x (BitVec.ofNat 8 k)
    | none => s.advance.setPc (s.advance.pc - 2))

end Sys2Proof.Machine
end

