-- ==== Sys2Proof/Machine/Skip.lean ====
section
/-! DEFINITION. Conditional skips on registers: 3XNN, 4XNN, 5XY0, 9XY0 (spec/42_skip.md). -/

namespace Sys2Proof.Machine

/-- 3XNN (42_skip.md R110). -/
def execSeImm (x : Reg) (nn : Byte) (s : State) : Outcome := .next (s.advance.skipIf (s.getV x == nn))

/-- 4XNN (42_skip.md R111). -/
def execSneImm (x : Reg) (nn : Byte) (s : State) : Outcome := .next (s.advance.skipIf (s.getV x != nn))

/-- 5XY0 (42_skip.md R112). -/
def execSeReg (x y : Reg) (s : State) : Outcome := .next (s.advance.skipIf (s.getV x == s.getV y))

/-- 9XY0 (42_skip.md R113). -/
def execSneReg (x y : Reg) (s : State) : Outcome := .next (s.advance.skipIf (s.getV x != s.getV y))

end Sys2Proof.Machine
end

