-- ==== Sys2Proof/Machine/Timer.lean ====
section
/-! DEFINITION. Timer instructions: FX07, FX15, FX18 (spec/48_timer_instructions.md). The ticks of the step come after them. -/

namespace Sys2Proof.Machine

/-- FX07 (48_timer_instructions.md R170). -/
def execLdDelay (x : Reg) (s : State) : Outcome := .next (s.advance.setV x s.dt)

/-- FX15 (48_timer_instructions.md R171). -/
def execSetDelay (x : Reg) (s : State) : Outcome := .next (s.advance.setDt (s.getV x))

/-- FX18 (48_timer_instructions.md R172). -/
def execSetSound (x : Reg) (s : State) : Outcome := .next (s.advance.setSt (s.getV x))

end Sys2Proof.Machine
end

