-- ==== Sys2Proof/Machine/Transfer.lean ====
section
/-! DEFINITION. Memory transfer: FX33, FX55, FX65 (spec/49_memory_transfer.md). The range is tested before the first byte
moves. -/

namespace Sys2Proof.Machine

/-- FX33 (49_memory_transfer.md R176): `I` keeps its value. -/
def execStoreBcd (x : Reg) (s : State) : Outcome :=
  .next (if s.fits 3 then s.advance.writeAtI (bcdDigits (s.getV x)) else s.raise (s.memoryFault 3))

/-- `I <- I + n`, modulo 65536 (49_memory_transfer.md R177). -/
def State.bumpI (s : State) (n : Nat) : State := s.setI (s.i + BitVec.ofNat 16 n)

/-- FX55 (49_memory_transfer.md R177): `V[0]` to `V[X]`, then `I` advanced by `X + 1`. -/
def execStoreRegs (x : Reg) (s : State) : Outcome :=
  .next (if s.fits (x.val + 1) then (s.advance.writeAtI (s.v.toList.take (x.val + 1))).bumpI (x.val + 1)
    else s.raise (s.memoryFault (x.val + 1)))

/-- FX65 (49_memory_transfer.md R178): `V[0]` to `V[X]`, then `I` advanced by `X + 1`. -/
def execLoadRegs (x : Reg) (s : State) : Outcome :=
  .next (if s.fits (x.val + 1) then (s.advance.setRegs (s.readAtI (x.val + 1))).bumpI (x.val + 1)
    else s.raise (s.memoryFault (x.val + 1)))

end Sys2Proof.Machine
end

