-- ==== Sys2Proof/Machine/HostPort.lean ====
section
/-! DEFINITION. The core's boundary: what the host does and reads between steps (spec/60_exceptions.md R218 to R223;
70_reset_and_hazards.md R230, R232). The key write is `State.writeKeys`. -/

namespace Sys2Proof.Machine

/-- `Reset()` asked for by the host between two steps, from any state, a faulted one too (70_reset_and_hazards.md R230;
60_exceptions.md R203): every part of the spec's state takes its reset value. It emits no report and consumes no `delta` or `rnd`,
so the model's own fields stay, and so do the parameters (notes/assumptions/17.md and 24.md). -/
def State.hostReset (s : State) : State :=
  { State.resetWith s.params with reports := s.reports, inputs := s.inputs, turnNo := s.turnNo }

/-- The host clears `drawFlag`; it never sets it (60_exceptions.md R219). -/
def State.clearDrawFlag (s : State) : State := s.setDrawFlag false

/-- `LoadProgram(rom)` (70_reset_and_hazards.md R232): the image from 0x200 upward, or a refusal of the launch with no state
change (R233). -/
def State.loadProgram (s : State) (rom : List Byte) : Outcome :=
  if rom.length ≤ s.params.memSize - Config.romBase then
    .next (s.setMem (memWriteBytes s.params s.mem Config.romBase rom))
  else .refused (.romTooLarge rom.length)

/-- The display output: 2048 values, element `64 * y + x` pixel `(x, y)` (60_exceptions.md R219, decision D30). -/
def State.displayOut (s : State) : List Bool := (List.range 2048).map fun k => pixel s.display (k % 64) (k / 64)

/-- The audio output: the level `ST > 0` (60_exceptions.md R221). -/
def State.audioOut (s : State) : Bool := s.st.toNat > 0

/-- The coming host turns written down. -/
def State.withInputs (s : State) (ts : List HostTurn) : State := { s with inputs := ts }

end Sys2Proof.Machine
end

