-- ==== Sys2Proof/Machine/Step.lean ====
section
/-! DEFINITION. The step (spec/40_instruction_cycle.md R90): the host's moves, fetch, decode, execute, timer update. -/

namespace Sys2Proof.Machine

/-- Phases 1 to 5 of a step of a core that is not faulted (40_instruction_cycle.md R90), the host's moves before it done. -/
def coreStep (s : State) : Outcome :=
  match s.fetch with
  | none => .next s.raiseFetch
  | some op =>
    match decode op with
    | none => endOutcome (.next (s.unmatched op))
    | some i => endOutcome (exec i s)

/-- One step. A faulted core has none (40_instruction_cycle.md R97; notes/assumptions/1.md). -/
def step (s : State) : Host.Outcome State Fault Refusal :=
  match s.fault with
  | some r => .fault (.stopped r)
  | none => coreStep s.hostMoves

/-- The state after the host has asked for a step: a request to a core that has no step changes nothing
(40_instruction_cycle.md R97). -/
def State.afterRequest (s : State) : State :=
  match step s with
  | .next t => t
  | .fault _ => s
  | .refused _ => s

/-- `s` with the instruction of the word `w` of `nbits` bits stored at `PC`, high byte first, where the next fetch reads it. It
stands for a ROM load (notes/assumptions/10.md). -/
def State.withFetchWord (s : State) (nbits w : Nat) : State :=
  s.setMem (memWriteBytes s.params s.mem s.pc.toNat
    [highByte (BitVec.ofNat 16 (w % 2 ^ nbits)), lowByte (BitVec.ofNat 16 (w % 2 ^ nbits))])

end Sys2Proof.Machine
end

