-- ==== Sys2Proof/Laws/Decode.lean ====
section
/-! SUPPORT. The fields of a packed word, the word packed from its fields, and the packed word under the masks of the opcode
table: each once, so that no later proof goes down to the bits of an encoding. -/

namespace Sys2Proof

/-! Taking a packed word apart. -/

@[simp] theorem opClass_packNNN (c : BitVec 4) (nnn : Word16) : opClass (packNNN c nnn) = c := by
  ext k hk
  simp only [opClass, packNNN, BitVec.getElem_extractLsb', BitVec.getLsbD_append]
  simp [show ¬ (12 + k < 12) by omega, ← BitVec.getLsbD_eq_getElem]

@[simp] theorem opClass_packXNN (c : BitVec 4) (x : Reg) (nn : Byte) : opClass (packXNN c x nn) = c := by
  ext k hk
  simp only [opClass, packXNN, BitVec.getElem_extractLsb', BitVec.getLsbD_append]
  simp [show ¬ (12 + k < 12) by omega, ← BitVec.getLsbD_eq_getElem]

@[simp] theorem opClass_packXYN (c : BitVec 4) (x y : Reg) (n : BitVec 4) : opClass (packXYN c x y n) = c := by
  ext k hk
  simp only [opClass, packXYN, BitVec.getElem_extractLsb', BitVec.getLsbD_append]
  simp [show ¬ (12 + k < 12) by omega, ← BitVec.getLsbD_eq_getElem]

theorem fieldNNN_packNNN (c : BitVec 4) (nnn : Word16) (h : fitsNNN nnn = true) : fieldNNN (packNNN c nnn) = nnn := by
  have h' : nnn.toNat < 2 ^ 12 := by simpa [fitsNNN] using h
  have hx : (packNNN c nnn).extractLsb' 0 12 = nnn.setWidth 12 := by
    ext k hk
    simp only [packNNN, BitVec.getElem_extractLsb', BitVec.getLsbD_append]
    simp [hk]
  simp only [fieldNNN, hx]
  apply BitVec.eq_of_toNat_eq
  simp; omega

@[simp] theorem fieldX_packXNN (c : BitVec 4) (x : Reg) (nn : Byte) : fieldX (packXNN c x nn) = x := by
  have hx : (packXNN c x nn).extractLsb' 8 4 = BitVec.ofFin (w := 4) x := by
    ext k hk
    simp only [packXNN, BitVec.getElem_extractLsb', BitVec.getLsbD_append]
    simp [show (8 + k < 12) by omega, show ¬ (8 + k < 8) by omega]
  simp [fieldX, hx]

@[simp] theorem fieldNN_packXNN (c : BitVec 4) (x : Reg) (nn : Byte) : fieldNN (packXNN c x nn) = nn := by
  ext k hk
  simp only [fieldNN, packXNN, BitVec.getElem_extractLsb', BitVec.getLsbD_append]
  simp [show (k < 12) by omega, show (k < 8) by omega]

@[simp] theorem fieldX_packXYN (c : BitVec 4) (x y : Reg) (n : BitVec 4) : fieldX (packXYN c x y n) = x := by
  have hx : (packXYN c x y n).extractLsb' 8 4 = BitVec.ofFin (w := 4) x := by
    ext k hk
    simp only [packXYN, BitVec.getElem_extractLsb', BitVec.getLsbD_append]
    simp [show (8 + k < 12) by omega, show ¬ (8 + k < 8) by omega]
  simp [fieldX, hx]

@[simp] theorem fieldY_packXYN (c : BitVec 4) (x y : Reg) (n : BitVec 4) : fieldY (packXYN c x y n) = y := by
  have hy : (packXYN c x y n).extractLsb' 4 4 = BitVec.ofFin (w := 4) y := by
    ext k hk
    simp only [packXYN, BitVec.getElem_extractLsb', BitVec.getLsbD_append]
    simp [show (4 + k < 12) by omega, show (4 + k < 8) by omega]
  simp [fieldY, hy]

@[simp] theorem fieldN_packXYN (c : BitVec 4) (x y : Reg) (n : BitVec 4) : fieldN (packXYN c x y n) = n := by
  ext k hk
  simp only [fieldN, packXYN, BitVec.getElem_extractLsb', BitVec.getLsbD_append]
  simp [show (k < 12) by omega, show (k < 8) by omega, hk]

/-! Putting a word together from its fields. -/

theorem packNNN_fields (op : Word16) : packNNN (opClass op) (fieldNNN op) = op := by
  ext k hk
  simp only [packNNN, opClass, fieldNNN, ← BitVec.getLsbD_eq_getElem, BitVec.getLsbD_append]
  interval_cases k <;> simp

theorem packXNN_fields (op : Word16) : packXNN (opClass op) (fieldX op) (fieldNN op) = op := by
  ext k hk
  simp only [packXNN, opClass, fieldX, fieldNN, ← BitVec.getLsbD_eq_getElem, BitVec.getLsbD_append, BitVec.ofFin_toFin]
  interval_cases k <;> simp

theorem packXYN_fields (op : Word16) : packXYN (opClass op) (fieldX op) (fieldY op) (fieldN op) = op := by
  ext k hk
  simp only [packXYN, opClass, fieldX, fieldY, fieldN, ← BitVec.getLsbD_eq_getElem, BitVec.getLsbD_append, BitVec.ofFin_toFin]
  interval_cases k <;> simp

/-- `NNN` is a 12-bit field. -/
theorem fitsNNN_fieldNNN (op : Word16) : fitsNNN (fieldNNN op) = true := by
  have h := ((op.extractLsb' 0 12)).isLt
  simp [fitsNNN, fieldNNN]
  omega

/-- The word of two bytes as a number (20_memory.md R52). -/
theorem toNat_wordOf (hi lo : Byte) : (wordOf hi lo).toNat = hi.toNat * 256 + lo.toNat := by
  have h : (wordOf hi lo).toNat = hi.toNat <<< 8 ||| lo.toNat := BitVec.toNat_append ..
  rw [h, ← Nat.shiftLeft_add_eq_or_of_lt lo.isLt, Nat.shiftLeft_eq]

/-- The word of a word's two bytes is the word. -/
theorem wordOf_bytes (w : Word16) : wordOf (highByte w) (lowByte w) = w := by
  apply BitVec.eq_of_toNat_eq
  rw [toNat_wordOf]
  simp only [highByte, lowByte, BitVec.extractLsb'_toNat, Nat.shiftRight_eq_div_pow]
  have := w.isLt
  omega

/-! A packed word under a mask. -/

theorem packNNN_mask (c : BitVec 4) (nnn : Word16) : packNNN c nnn &&& 0xF000 = packNNN c 0 := by
  ext k hk
  simp only [packNNN, ← BitVec.getLsbD_eq_getElem, BitVec.getLsbD_and, BitVec.getLsbD_append]
  interval_cases k <;> simp

theorem packXNN_mask (c : BitVec 4) (x : Reg) (nn : Byte) : packXNN c x nn &&& 0xF0FF = packXNN c 0 nn := by
  ext k hk
  simp only [packXNN, ← BitVec.getLsbD_eq_getElem, BitVec.getLsbD_and, BitVec.getLsbD_append]
  interval_cases k <;> simp

theorem packXYN_mask (c : BitVec 4) (x y : Reg) (n : BitVec 4) : packXYN c x y n &&& 0xF00F = packXYN c 0 0 n := by
  ext k hk
  simp only [packXYN, ← BitVec.getLsbD_eq_getElem, BitVec.getLsbD_and, BitVec.getLsbD_append]
  interval_cases k <;> simp

theorem packXNN_classMask (c : BitVec 4) (x : Reg) (nn : Byte) : packXNN c x nn &&& 0xF000 = packNNN c 0 := by
  ext k hk
  simp only [packXNN, packNNN, ← BitVec.getLsbD_eq_getElem, BitVec.getLsbD_and, BitVec.getLsbD_append]
  interval_cases k <;> simp

theorem packXYN_classMask (c : BitVec 4) (x y : Reg) (n : BitVec 4) : packXYN c x y n &&& 0xF000 = packNNN c 0 := by
  ext k hk
  simp only [packXYN, packNNN, ← BitVec.getLsbD_eq_getElem, BitVec.getLsbD_and, BitVec.getLsbD_append]
  interval_cases k <;> simp

end Sys2Proof
end

