-- ==== Sys2Proof/Laws/PerInstr.lean ====
section
/-! SUPPORT. Per-instruction laws: the word of an instruction fits its row of the opcode table (spec/30_encoding.md R75), and only
that row names it. -/

namespace Sys2Proof.Laws

/-- The family FitsRow: a well-formed instruction's word satisfies `(op & mask) == match` of the instruction's own row. -/
def FitsRow.Statement (i : Instr) : Prop := wellFormed i = true → (rowOf i).fits (encode i) = true

theorem FitsRow.cls : FitsRow.Statement .cls := fun _ => by decide
theorem FitsRow.ret : FitsRow.Statement .ret := fun _ => by decide
theorem FitsRow.jp (nnn : Word16) : FitsRow.Statement (.jp nnn) := fun _ => by
  simp only [OpcodeRow.fits, rowOf, encode, packNNN_mask]; decide
theorem FitsRow.call (nnn : Word16) : FitsRow.Statement (.call nnn) := fun _ => by
  simp only [OpcodeRow.fits, rowOf, encode, packNNN_mask]; decide
theorem FitsRow.ldI (nnn : Word16) : FitsRow.Statement (.ldI nnn) := fun _ => by
  simp only [OpcodeRow.fits, rowOf, encode, packNNN_mask]; decide
theorem FitsRow.jpV0 (nnn : Word16) : FitsRow.Statement (.jpV0 nnn) := fun _ => by
  simp only [OpcodeRow.fits, rowOf, encode, packNNN_mask]; decide
theorem FitsRow.seImm (x : Reg) (nn : Byte) : FitsRow.Statement (.seImm x nn) := fun _ => by
  simp only [OpcodeRow.fits, rowOf, encode, packXNN_classMask]; decide
theorem FitsRow.sneImm (x : Reg) (nn : Byte) : FitsRow.Statement (.sneImm x nn) := fun _ => by
  simp only [OpcodeRow.fits, rowOf, encode, packXNN_classMask]; decide
theorem FitsRow.ldImm (x : Reg) (nn : Byte) : FitsRow.Statement (.ldImm x nn) := fun _ => by
  simp only [OpcodeRow.fits, rowOf, encode, packXNN_classMask]; decide
theorem FitsRow.addImm (x : Reg) (nn : Byte) : FitsRow.Statement (.addImm x nn) := fun _ => by
  simp only [OpcodeRow.fits, rowOf, encode, packXNN_classMask]; decide
theorem FitsRow.rnd (x : Reg) (nn : Byte) : FitsRow.Statement (.rnd x nn) := fun _ => by
  simp only [OpcodeRow.fits, rowOf, encode, packXNN_classMask]; decide
theorem FitsRow.seReg (x y : Reg) : FitsRow.Statement (.seReg x y) := fun _ => by
  simp only [OpcodeRow.fits, rowOf, encode, packXYN_mask]; decide
theorem FitsRow.sneReg (x y : Reg) : FitsRow.Statement (.sneReg x y) := fun _ => by
  simp only [OpcodeRow.fits, rowOf, encode, packXYN_mask]; decide
theorem FitsRow.ldReg (x y : Reg) : FitsRow.Statement (.ldReg x y) := fun _ => by
  simp only [OpcodeRow.fits, rowOf, encode, packXYN_mask]; decide
theorem FitsRow.or (x y : Reg) : FitsRow.Statement (.or x y) := fun _ => by
  simp only [OpcodeRow.fits, rowOf, encode, packXYN_mask]; decide
theorem FitsRow.and (x y : Reg) : FitsRow.Statement (.and x y) := fun _ => by
  simp only [OpcodeRow.fits, rowOf, encode, packXYN_mask]; decide
theorem FitsRow.xor (x y : Reg) : FitsRow.Statement (.xor x y) := fun _ => by
  simp only [OpcodeRow.fits, rowOf, encode, packXYN_mask]; decide
theorem FitsRow.addReg (x y : Reg) : FitsRow.Statement (.addReg x y) := fun _ => by
  simp only [OpcodeRow.fits, rowOf, encode, packXYN_mask]; decide
theorem FitsRow.sub (x y : Reg) : FitsRow.Statement (.sub x y) := fun _ => by
  simp only [OpcodeRow.fits, rowOf, encode, packXYN_mask]; decide
theorem FitsRow.shr (x y : Reg) : FitsRow.Statement (.shr x y) := fun _ => by
  simp only [OpcodeRow.fits, rowOf, encode, packXYN_mask]; decide
theorem FitsRow.subn (x y : Reg) : FitsRow.Statement (.subn x y) := fun _ => by
  simp only [OpcodeRow.fits, rowOf, encode, packXYN_mask]; decide
theorem FitsRow.shl (x y : Reg) : FitsRow.Statement (.shl x y) := fun _ => by
  simp only [OpcodeRow.fits, rowOf, encode, packXYN_mask]; decide
theorem FitsRow.drw (x y : Reg) (n : Nat) : FitsRow.Statement (.drw x y n) := fun _ => by
  simp only [OpcodeRow.fits, rowOf, encode, packXYN_classMask]; decide
theorem FitsRow.skp (x : Reg) : FitsRow.Statement (.skp x) := fun _ => by
  simp only [OpcodeRow.fits, rowOf, encode, packXNN_mask]; decide
theorem FitsRow.sknp (x : Reg) : FitsRow.Statement (.sknp x) := fun _ => by
  simp only [OpcodeRow.fits, rowOf, encode, packXNN_mask]; decide
theorem FitsRow.ldDelay (x : Reg) : FitsRow.Statement (.ldDelay x) := fun _ => by
  simp only [OpcodeRow.fits, rowOf, encode, packXNN_mask]; decide
theorem FitsRow.waitKey (x : Reg) : FitsRow.Statement (.waitKey x) := fun _ => by
  simp only [OpcodeRow.fits, rowOf, encode, packXNN_mask]; decide
theorem FitsRow.setDelay (x : Reg) : FitsRow.Statement (.setDelay x) := fun _ => by
  simp only [OpcodeRow.fits, rowOf, encode, packXNN_mask]; decide
theorem FitsRow.setSound (x : Reg) : FitsRow.Statement (.setSound x) := fun _ => by
  simp only [OpcodeRow.fits, rowOf, encode, packXNN_mask]; decide
theorem FitsRow.addI (x : Reg) : FitsRow.Statement (.addI x) := fun _ => by
  simp only [OpcodeRow.fits, rowOf, encode, packXNN_mask]; decide
theorem FitsRow.ldFont (x : Reg) : FitsRow.Statement (.ldFont x) := fun _ => by
  simp only [OpcodeRow.fits, rowOf, encode, packXNN_mask]; decide
theorem FitsRow.storeBcd (x : Reg) : FitsRow.Statement (.storeBcd x) := fun _ => by
  simp only [OpcodeRow.fits, rowOf, encode, packXNN_mask]; decide
theorem FitsRow.storeRegs (x : Reg) : FitsRow.Statement (.storeRegs x) := fun _ => by
  simp only [OpcodeRow.fits, rowOf, encode, packXNN_mask]; decide
theorem FitsRow.loadRegs (x : Reg) : FitsRow.Statement (.loadRegs x) := fun _ => by
  simp only [OpcodeRow.fits, rowOf, encode, packXNN_mask]; decide

end Sys2Proof.Laws
end

