-- ==== Sys2Proof/Safety.lean ====
section
/-! DEFINITION. The terms claims are made in: the parts of the state and what it is to keep them, the invariant, the fault table
of spec/60_exceptions.md R200 and the writer tables of 10_state.md R21 and R37 written down a second time, the mask of a sprite,
and the conventional end of a run. -/

namespace Sys2Proof.Machine

/-- The parts of the state (10_state.md R37); `reports`, `host` and `params` are the model's own. -/
inductive Part where
  | v | pc | i | stack | sp | mem | display | key | dt | st | acc | drawFlag | soundFlag | fault | reports | host | params
  deriving DecidableEq, Repr

/-- `t` has the part as `s` has it. Memory is compared through the read of one byte, at every address. -/
def Unchanged (s t : State) : Part → Prop
  | .v => ∀ r, t.getV r = s.getV r
  | .pc => t.pc = s.pc
  | .i => t.i = s.i
  | .stack => t.stack = s.stack
  | .sp => t.sp = s.sp
  | .mem => ∀ a, t.readByte a = s.readByte a
  | .display => t.display = s.display
  | .key => t.key = s.key
  | .dt => t.dt = s.dt
  | .st => t.st = s.st
  | .acc => t.acc = s.acc
  | .drawFlag => t.drawFlag = s.drawFlag
  | .soundFlag => t.soundFlag = s.soundFlag
  | .fault => t.fault = s.fault
  | .reports => t.reports = s.reports
  | .host => t.inputs = s.inputs ∧ t.turnNo = s.turnNo
  | .params => t.params = s.params

/-- Every part but the listed ones is unchanged: the frame of an instruction. -/
def KeepsBut (ps : List Part) (s t : State) : Prop := ∀ p, p ∉ ps → Unchanged s t p

/-- The invariant of the machine (10_state.md R38): the parameters describe a core, memory has its canonical form and the
accumulator lies below one period. The other ranges of R38 hold by the types of the fields. -/
def Inv (s : State) : Prop :=
  s.params.ok ∧ Memory.wf s.params s.mem = true ∧ 0 ≤ s.acc ∧ s.acc < s.params.timerPeriod

/-- The fault an instruction raises in a state, written from the table of 60_exceptions.md R200 alone. -/
def faultOf : Instr → State → Option FaultRecord
  | .call _, s => if s.sp.val = 16 then some (.stackOverflow s.pc) else none
  | .ret, s => if s.sp.val = 0 then some (.stackUnderflow s.pc) else none
  | .drw _ _ n, s =>
    if n > 0 ∧ s.i.toNat + n - 1 ≥ s.params.memSize then some (.memoryOutOfBounds s.pc (s.i.toNat + n - 1)) else none
  | .storeBcd _, s =>
    if s.i.toNat + 2 ≥ s.params.memSize then some (.memoryOutOfBounds s.pc (s.i.toNat + 2)) else none
  | .storeRegs x, s =>
    if s.i.toNat + x.val ≥ s.params.memSize then some (.memoryOutOfBounds s.pc (s.i.toNat + x.val)) else none
  | .loadRegs x, s =>
    if s.i.toNat + x.val ≥ s.params.memSize then some (.memoryOutOfBounds s.pc (s.i.toNat + x.val)) else none
  | .skp x, s => if (s.getV x).toNat > 15 then some (.keyIndexOutOfRange s.pc (s.getV x)) else none
  | .sknp x, s => if (s.getV x).toNat > 15 then some (.keyIndexOutOfRange s.pc (s.getV x)) else none
  | .cls, _ | .jp _, _ | .seImm _ _, _ | .sneImm _ _, _ | .seReg _ _, _ | .sneReg _ _, _ => none
  | .ldImm _ _, _ | .addImm _ _, _ | .ldReg _ _, _ | .or _ _, _ | .and _ _, _ | .xor _ _, _ => none
  | .addReg _ _, _ | .sub _ _, _ | .shr _ _, _ | .subn _ _, _ | .shl _ _, _ | .ldI _, _ | .jpV0 _, _ => none
  | .rnd _ _, _ | .ldDelay _, _ | .waitKey _, _ | .setDelay _, _ | .setSound _, _ | .addI _, _ | .ldFont _, _ => none

/-- The general registers an instruction may write (10_state.md R21, the column 'writes'; `VF` for the flag). -/
def regsWritten : Instr → List Reg
  | .ldImm x _ | .addImm x _ | .ldReg x _ | .rnd x _ | .ldDelay x | .waitKey x => [x]
  | .or x _ | .and x _ | .xor x _ | .addReg x _ | .sub x _ | .shr x _ | .subn x _ | .shl x _ => [x, VF]
  | .drw _ _ _ => [VF]
  | .loadRegs x => (List.finRange 16).filter (· ≤ x)
  | .cls | .ret | .jp _ | .call _ | .seImm _ _ | .sneImm _ _ | .seReg _ _ | .sneReg _ _ => []
  | .ldI _ | .jpV0 _ | .skp _ | .sknp _ | .setDelay _ | .setSound _ | .addI _ | .ldFont _ | .storeBcd _ | .storeRegs _ => []

/-- The instructions that write `VF` as a flag (10_state.md R22). -/
def writesFlag : Instr → Bool
  | .or _ _ | .and _ _ | .xor _ _ | .addReg _ _ | .sub _ _ | .shr _ _ | .subn _ _ | .shl _ _ | .drw _ _ _ => true
  | .cls | .ret | .jp _ | .call _ | .seImm _ _ | .sneImm _ _ | .seReg _ _ | .sneReg _ _ | .ldImm _ _ | .addImm _ _ => false
  | .ldReg _ _ | .ldI _ | .jpV0 _ | .rnd _ _ | .skp _ | .sknp _ | .ldDelay _ | .waitKey _ | .setDelay _ => false
  | .setSound _ | .addI _ | .ldFont _ | .storeBcd _ | .storeRegs _ | .loadRegs _ => false

/-- The parts of the state an instruction may change (10_state.md R21, R37; 60_exceptions.md R200 for the fault). -/
def partsWritten : Instr → List Part
  | .cls => [.pc, .display]
  | .ret => [.pc, .sp, .fault]
  | .jp _ | .jpV0 _ | .seImm _ _ | .sneImm _ _ | .seReg _ _ | .sneReg _ _ => [.pc]
  | .call _ => [.pc, .stack, .sp, .fault]
  | .ldImm _ _ | .addImm _ _ | .ldReg _ _ | .or _ _ | .and _ _ | .xor _ _ | .addReg _ _ => [.pc, .v]
  | .sub _ _ | .shr _ _ | .subn _ _ | .shl _ _ | .rnd _ _ | .ldDelay _ | .waitKey _ => [.pc, .v]
  | .ldI _ | .addI _ | .ldFont _ => [.pc, .i]
  | .drw _ _ _ => [.pc, .v, .display, .drawFlag, .fault]
  | .skp _ | .sknp _ => [.pc, .fault]
  | .setDelay _ => [.pc, .dt]
  | .setSound _ => [.pc, .st]
  | .storeBcd _ => [.pc, .mem, .fault]
  | .storeRegs _ => [.pc, .mem, .i, .fault]
  | .loadRegs _ => [.pc, .v, .i, .fault]

/-- The sprite of `n` rows at `I`, placed at the start coordinates of DXYN: its bit at column `px`, row `py`
(46_display.md R151, R153 (d)). -/
def spriteBit (s : State) (x y : Reg) (n px py : Nat) : Bool :=
  decide (s.spriteColumn x ≤ px ∧ px < s.spriteColumn x + 8 ∧ s.spriteRow y ≤ py ∧ py < s.spriteRow y + n) &&
    (s.readByte (s.i.toNat + (py - s.spriteRow y))).getLsbD (7 - (px - s.spriteColumn x))

/-- The conventional end of a run, PARKED: the instruction at `PC` is a jump to itself (70_reset_and_hazards.md R243). -/
def Parked (s : State) : Prop := s.fault = none ∧ s.fetch.bind decode = some (.jp s.pc)

end Sys2Proof.Machine
end

