-- ==== Sys2Proof/Certificates/Slice0/Obligations.lean ====
section
/-! DEFINITION. What is claimed of the model: the numbered rules of spec/ and what follows from them. Each docstring names the
rules. `KeepsBut ps s t` is the frame: every part of the state not listed in `ps` is as before, memory read byte by byte. -/

open Sys2Proof Sys2Proof.Machine

/-! ## Encoding -/

/-- Decoding the word of a well-formed instruction gives it back, for every instruction and every operand (30_encoding.md R71
to R75). -/
def Obligations.DecodeOfEncodeIsTheInstruction : Prop :=
  ∀ i : Instr, wellFormed i = true → decode (encode i) = some i

/-- A word that decodes is the word of the instruction it decodes to, which is well-formed: no bit is dropped, and no two words
share an instruction (30_encoding.md R71 to R75, R78). -/
def Obligations.EncodeOfDecodeIsTheWord : Prop :=
  ∀ (op : Word16) (i : Instr), decode op = some i → wellFormed i = true ∧ encode i = op

/-- The two-level dispatch is the opcode table: a word is the instruction of a row exactly when `(op & mask) == match`
(30_encoding.md R73, R75). -/
def Obligations.DispatchIsTheOpcodeTable : Prop :=
  (∀ i : Instr, rowOf i ∈ opcodeTable) ∧
  ∀ row ∈ opcodeTable, ∀ op : Word16, row.fits op = true ↔ ∃ i, decode op = some i ∧ rowOf i = row

/-- The 34 patterns are pairwise disjoint (30_encoding.md R76, its first sentence). -/
def Obligations.OpcodePatternsAreDisjoint : Prop :=
  opcodeTable.length = 34 ∧
  ∀ r1 ∈ opcodeTable, ∀ r2 ∈ opcodeTable, ∀ op : Word16, r1.fits op = true → r2.fits op = true → r1 = r2

/-- The unmatched words, class by class (30_encoding.md R77, without its counts). -/
def Obligations.UnmatchedWordsAreTheListedOnes : Prop :=
  ∀ op : Word16, decode op = none ↔
    (op.toNat / 0x1000 = 0 ∧ op.toNat ≠ 0x00E0 ∧ op.toNat ≠ 0x00EE) ∨
    (op.toNat / 0x1000 = 5 ∧ op.toNat % 16 ≠ 0) ∨
    (op.toNat / 0x1000 = 8 ∧ op.toNat % 16 ∈ [8, 9, 0xA, 0xB, 0xC, 0xD, 0xF]) ∨
    (op.toNat / 0x1000 = 9 ∧ op.toNat % 16 ≠ 0) ∨
    (op.toNat / 0x1000 = 0xE ∧ op.toNat % 256 ∉ [0x9E, 0xA1]) ∨
    (op.toNat / 0x1000 = 0xF ∧ op.toNat % 256 ∉ [0x07, 0x0A, 0x15, 0x18, 0x1E, 0x29, 0x33, 0x55, 0x65])

/-- A few words written out from the encodings of 30_encoding.md R75, one for each format, and the source's unmatched 0x5001. -/
def Obligations.SampleWordsDecode : Prop :=
  decode 0x00E0 = some .cls ∧ decode 0x220A = some (.call 0x20A) ∧ decode 0x7A2F = some (.addImm 0xA 0x2F) ∧
  decode 0x8AB4 = some (.addReg 0xA 0xB) ∧ decode 0xD12F = some (.drw 1 2 15) ∧ decode 0xF365 = some (.loadRegs 3) ∧
  decode 0x5001 = none

/-! ## The step -/

/-- The fetch is big-endian (20_memory.md R52): where both bytes are in memory it is the byte at `PC` times 256 plus the byte
after it. -/
def Obligations.FetchIsBigEndian : Prop :=
  ∀ s : State, s.pc.toNat + 1 < s.params.memSize → ∃ op, s.fetch = some op ∧
    op.toNat = (s.readByte s.pc.toNat).toNat * 256 + (s.readByte (s.pc.toNat + 1)).toNat

/-- A step runs the decoded instruction: when the word at `PC` decodes to `i`, the step is `exec i` on the state after the
host's moves, and then, unless a fault was taken, the timer update, with the host turn used up (40_instruction_cycle.md R90,
R94, R95; the host turn is the model's own, notes/assumptions/2.md). -/
def Obligations.StepRunsTheDecodedInstruction : Prop :=
  ∀ (s t : State) (op : Word16) (i : Instr), s.fault = none → s.hostMoves.fetch = some op → decode op = some i →
    exec i s.hostMoves = .next t →
    step s = .next (if t.fault = none then t.timerUpdate.nextTurn else t)

/-- An unmatched word: `PC + 2`, one report with the address and the word, the timer update, and nothing else
(40_instruction_cycle.md R96; 60_exceptions.md R205, decision D19; notes/assumptions/2.md and 4.md). -/
def Obligations.UnmatchedWordIsSkippedAndReported : Prop :=
  ∀ (s : State) (op : Word16), s.fault = none → s.hostMoves.fetch = some op → decode op = none →
    ∃ u, step s = .next u.timerUpdate.nextTurn ∧ u.pc = s.pc + 2 ∧ u.fault = none ∧
      u.reports = s.reports ++ [{ addr := s.pc, op := op }] ∧ KeepsBut [.pc, .reports] s.hostMoves u

/-- A fetch that leaves memory faults and does nothing else (40_instruction_cycle.md R91, which is the spec's decision D6; the
fault is taken as notes/assumptions/1.md says). -/
def Obligations.FetchOutOfBoundsFaults : Prop :=
  ∀ s : State, s.fault = none → s.params.memSize ≤ s.pc.toNat + 1 →
    ∃ t, step s = .next t ∧ t.fault = some (.fetchOutOfBounds s.pc) ∧ KeepsBut [.fault] s.hostMoves t

/-- A faulted core has no step, and a request for one changes nothing (40_instruction_cycle.md R97, decision D2). The stop is
the model's form of it (DESIGN CHOICE, notes/assumptions/1.md). -/
def Obligations.FaultedCoreHasNoStep : Prop :=
  ∀ (s : State) (r : FaultRecord), s.fault = some r → step s = .fault (.stopped r) ∧ s.afterRequest = s

/-- A running core always has a step: no instruction, no operand and no word of memory stops the model
(40_instruction_cycle.md R97). -/
def Obligations.RunningCoreAlwaysSteps : Prop :=
  ∀ s : State, s.fault = none → ∃ t, step s = .next t

/-- Precise faults: a step that takes a fault leaves every part of the state as the host left it before the step
(60_exceptions.md R201, decisions D2 and D27; notes/assumptions/1.md). And what the host leaves before a step is what it found but
for the key buffer, which is the turn's or the old one, and `drawFlag`, which it may clear and never sets; using up the turn
changes the turns alone (60_exceptions.md R218 to R220; notes/assumptions/2.md and 18.md). -/
def Obligations.FaultsArePrecise : Prop :=
  (∀ (s t : State) (r : FaultRecord), s.fault = none → step s = .next t → t.fault = some r → t = s.hostMoves.raise r) ∧
  ∀ s : State, KeepsBut [.key, .drawFlag] s s.hostMoves ∧
    (∀ k, s.turn.keys = some k → s.hostMoves.key = k) ∧ (s.turn.keys = none → s.hostMoves.key = s.key) ∧
    (s.turn.clearDraw = true → s.hostMoves.drawFlag = false) ∧
    (s.turn.clearDraw = false → s.hostMoves.drawFlag = s.drawFlag) ∧
    KeepsBut [.host] s s.nextTurn ∧ s.nextTurn.inputs = s.inputs.tail ∧ s.nextTurn.turnNo = s.turnNo + 1

/-- An instruction raises exactly the fault of the table of 60_exceptions.md R200 (decisions D2 to D7), and then changes nothing
else. -/
def Obligations.FaultsAreExactlyTheTabulated : Prop :=
  ∀ (i : Instr) (s : State), s.fault = none →
    ∃ t, exec i s = .next t ∧ t.fault = faultOf i s ∧ (faultOf i s ≠ none → KeepsBut [.fault] s t)

/-- A step emits a report for an unmatched word only, at most one (60_exceptions.md R205, decision D19;
notes/assumptions/4.md). -/
def Obligations.ReportsAreForUnmatchedWords : Prop :=
  ∀ s t : State, step s = .next t →
    t.reports = s.reports ∨
    ∃ op, s.hostMoves.fetch = some op ∧ decode op = none ∧ t.reports = s.reports ++ [{ addr := s.pc, op := op }]

/-- Every step keeps the invariant: parameters that describe a core, memory in its canonical form, `0 <= acc < TIMER_PERIOD_MS`
(10_state.md R38; 60_exceptions.md R213, decision D14; the form of memory is the model's own, notes/assumptions/8.md). And no step
changes a parameter (notes/assumptions/24.md). -/
def Obligations.StepKeepsTheInvariant : Prop :=
  ∀ s t : State, Inv s → step s = .next t → Inv t ∧ t.params = s.params

/-- The invariant holds at reset, for any parameters that describe a core and so for the defaults, and the host's actions beside
the step keep it or establish it: the ROM load, the key write and the clearing of `drawFlag` keep it, a reset asked for in any
state establishes it (10_state.md R38; 70_reset_and_hazards.md R230, R232; notes/assumptions/8.md, 17.md and 24.md). -/
def Obligations.ResetMeetsTheInvariant : Prop :=
  (∀ p : Params, p.ok → Inv (State.resetWith p)) ∧ Inv State.reset ∧
  (∀ s : State, s.params.ok → Inv s.hostReset) ∧
  (∀ (s t : State) (rom : List Byte), Inv s → s.loadProgram rom = .next t → Inv t) ∧
  (∀ (s : State) (k : Vector Bool 16), Inv s → Inv (s.writeKeys k)) ∧
  ∀ s : State, Inv s → Inv s.clearDrawFlag

/-- What reset leaves, for any parameters and from any state (70_reset_and_hazards.md R230; 20_memory.md R58 for the font,
decision D13, notes/assumptions/6.md; decisions D15, D17 and D2 for `acc`, the two flags and `fault`, notes/assumptions/15.md);
and the defaults of the parameters (00_scope.md R5, decisions D1 and D14; notes/assumptions/5.md, 7.md and 24.md). -/
def Obligations.ResetValues : Prop :=
  (∀ p : Params, (∀ r, (State.resetWith p).getV r = 0) ∧ (State.resetWith p).pc = 0x200 ∧ (State.resetWith p).i = 0 ∧
    (State.resetWith p).sp = 0 ∧ (∀ j (h : j < 16), (State.resetWith p).stack[j] = 0) ∧
    (∀ a, 80 ≤ a → (State.resetWith p).readByte a = 0) ∧
    (∀ a (h : a < 80), (State.resetWith p).readByte a = p.fontData[a]) ∧
    (∀ x y, pixel (State.resetWith p).display x y = false) ∧ (∀ k, (State.resetWith p).keyDown k = false) ∧
    (State.resetWith p).dt = 0 ∧ (State.resetWith p).st = 0 ∧ (State.resetWith p).acc = 0 ∧
    (State.resetWith p).drawFlag = false ∧ (State.resetWith p).soundFlag = false ∧ (State.resetWith p).fault = none ∧
    (State.resetWith p).params = p) ∧
  (∀ s : State, KeepsBut [.reports, .host] (State.resetWith s.params) s.hostReset ∧ KeepsBut
    [.v, .pc, .i, .stack, .sp, .mem, .display, .key, .dt, .st, .acc, .drawFlag, .soundFlag, .fault] s s.hostReset) ∧
  State.reset = State.resetWith State.reset.params ∧ State.reset.params.memSize = 4096 ∧
  State.reset.params.timerPeriod = 1000 / 60 ∧ State.reset.params.deltaClamp = 100 ∧ State.reset.params.ticksMax = 7 ∧
  State.reset.params.fontData.toList = Config.fontBytes

/-! ## Whole-machine rules -/

/-- The writers of each part of the state (10_state.md R37, R21): an instruction changes only the parts its row names. The
key buffer, `acc`, `soundFlag`, the reports and the host's turns are in no row. -/
def Obligations.InstructionsChangeOnlyTheirParts : Prop :=
  ∀ (i : Instr) (s t : State), exec i s = .next t → KeepsBut (partsWritten i) s t

/-- The general registers each instruction writes (10_state.md R21, the column 'writes'). -/
def Obligations.RegistersChangeOnlyAsTabulated : Prop :=
  ∀ (i : Instr) (s t : State) (r : Reg), exec i s = .next t → r ∉ regsWritten i → t.getV r = s.getV r

/-- `VF` as a flag is written by the listed instructions alone, always 0x00 or 0x01; another instruction changes it only as its
destination (10_state.md R22). -/
def Obligations.FlagIsWrittenByTheListedAlone : Prop :=
  ∀ (i : Instr) (s t : State), exec i s = .next t →
    (writesFlag i = true → s.fault = none → t.fault = none → t.getV VF = 0 ∨ t.getV VF = 1) ∧
    (writesFlag i = false → VF ∉ regsWritten i → t.getV VF = s.getV VF)

/-- How each instruction leaves `PC` (10_state.md R23; 40_instruction_cycle.md R92): two on from `pc0`, but for the jumps, the
call, the return, a skip that may add two more, a key wait that may stay, and an instruction that faults. -/
def Obligations.PcAdvancesByTwoUnlessSaidOtherwise : Prop :=
  ∀ (i : Instr) (s t : State), s.fault = none → exec i s = .next t → t.fault = none →
    match i with
    | .jp nnn => t.pc = nnn
    | .call nnn => t.pc = nnn
    | .jpV0 nnn => t.pc = (s.getV 0).setWidth 16 + nnn
    | .ret => ∀ h : 0 < s.sp.val, t.pc = s.stack[s.sp.val - 1]'(by have := s.sp.isLt; omega)
    | .seImm _ _ | .sneImm _ _ | .seReg _ _ | .sneReg _ _ | .skp _ | .sknp _ => t.pc = s.pc + 2 ∨ t.pc = s.pc + 4
    | .waitKey _ => t.pc = s.pc + 2 ∨ t.pc = s.pc
    | _ => t.pc = s.pc + 2

/-- No instruction but CXNN depends on the host turn of its step (45_index_random.md R141, decision D16;
60_exceptions.md R222; notes/assumptions/2.md). -/
def Obligations.OnlyRandomReadsTheRandomByte : Prop :=
  ∀ (i : Instr) (s t : State) (ts : List HostTurn) (n : Nat), (∀ x nn, i ≠ .rnd x nn) → exec i s = .next t →
    exec i { s with inputs := ts, turnNo := n } = .next { t with inputs := ts, turnNo := n }

/-- A parked core stays parked: a step from a jump to itself leaves the registers, `I`, `PC`, `sp`, the stack, memory and the
display as they were, and `drawFlag` as the host left it (70_reset_and_hazards.md R243, decision D21). -/
def Obligations.ParkedCoreStaysParked : Prop :=
  ∀ s : State, Parked s → ∃ t, step s = .next t ∧ Parked t ∧
    KeepsBut [.dt, .st, .acc, .host] s.hostMoves t

/-! ## The timers -/

/-- One tick takes a timer one toward 0, where it stays; a timer that held `b` holds `max(0, b - k)` after `k` ticks; and the
timer update gives both timers the same ticks (60_exceptions.md R214). -/
def Obligations.TicksSaturateAtZero : Prop :=
  (∀ b : Byte, tick b = if b.toNat > 0 then b - 1 else b) ∧
  (∀ (k : Nat) (b : Byte), (ticks k b).toNat = b.toNat - k) ∧
  ∀ s : State, ∃ k, s.timerUpdate.dt = ticks k s.dt ∧ s.timerUpdate.st = ticks k s.st ∧
    KeepsBut [.dt, .st, .acc] s s.timerUpdate

/-- The timer update (60_exceptions.md R213, decision D14; notes/assumptions/7.md): the number of ticks is the whole number of
periods in the accumulated time, the remainder is carried, both timers take the same ticks, and nothing else changes. -/
def Obligations.TimerUpdateCountsWholePeriods : Prop :=
  ∀ s : State, s.params.ok → 0 ≤ s.acc → ∃ k : Nat,
    s.timerUpdate.acc = s.acc + min s.turn.delta.ms s.params.deltaClamp - k * s.params.timerPeriod ∧
    0 ≤ s.timerUpdate.acc ∧ s.timerUpdate.acc < s.params.timerPeriod ∧
    s.timerUpdate.dt.toNat = s.dt.toNat - k ∧ s.timerUpdate.st.toNat = s.st.toNat - k ∧
    KeepsBut [.dt, .st, .acc] s s.timerUpdate

/-- A step has at most `TICKS_MAX` ticks, and at most 6 with the period exactly 1000/60 ms and the clamp 100 ms
(60_exceptions.md R215, decision D14; notes/assumptions/7.md and 24.md). -/
def Obligations.TicksOfAStepAreBounded : Prop :=
  ∀ (p : Params) (acc : Millis) (delta : Elapsed), p.ok → 0 ≤ acc → acc < p.timerPeriod →
    tickCount p acc delta ≤ p.ticksMax ∧
    (p.timerPeriod = 1000 / 60 → p.deltaClamp = 100 → tickCount p acc delta ≤ 6)

/-- The ticks do not depend on how many steps the elapsed time is split over, as long as the clamp is not passed
(60_exceptions.md R216 (b), decision D14; notes/assumptions/7.md). -/
def Obligations.TicksDoNotDependOnTheSplit : Prop :=
  ∀ (p : Params) (acc : Millis) (d d1 d2 : Elapsed), p.ok → 0 ≤ acc → d.ms = d1.ms + d2.ms → d.ms ≤ p.deltaClamp →
    tickCount p acc d = tickCount p acc d1 + tickCount p (accAfter p acc d1) d2 ∧
    accAfter p acc d = accAfter p (accAfter p acc d1) d2

/-- The ticks of a step come after its handler: FX07 reads `DT` as the step found it, FX15 and FX18 write before the ticks
(40_instruction_cycle.md R95; 48_timer_instructions.md R170 to R172; decision D14, notes/assumptions/7.md). -/
def Obligations.TicksComeAfterTheHandler : Prop :=
  ∀ (s : State) (op : Word16) (x : Reg), s.fault = none → s.hostMoves.fetch = some op →
    (decode op = some (.ldDelay x) → ∃ t, step s = .next t ∧ t.getV x = s.dt ∧
      t.dt.toNat = s.dt.toNat - tickCount s.params s.acc s.turn.delta) ∧
    (decode op = some (.setDelay x) → ∃ t, step s = .next t ∧
      t.dt.toNat = (s.getV x).toNat - tickCount s.params s.acc s.turn.delta) ∧
    (decode op = some (.setSound x) → ∃ t, step s = .next t ∧
      t.st.toNat = (s.getV x).toNat - tickCount s.params s.acc s.turn.delta)

/-! ## Jumps, call, return -/

/-- 1NNN and BNNN (41_flow.md R101, R103): the target, unmasked; nothing else changes. -/
def Obligations.JumpsSetThePc : Prop :=
  ∀ (nnn : Word16) (s : State),
    (∃ t, exec (.jp nnn) s = .next t ∧ t.pc = nnn ∧ KeepsBut [.pc] s t) ∧
    (fitsNNN nnn = true → ∃ t, exec (.jpV0 nnn) s = .next t ∧ t.pc.toNat = (s.getV 0).toNat + nnn.toNat ∧
      KeepsBut [.pc] s t)

/-- 2NNN (41_flow.md R102): the return address `pc0 + 2` goes to `stack[sp]`, `sp` rises by 1, `PC` is `NNN`; a full stack
faults (decision D3; notes/assumptions/1.md). -/
def Obligations.CallPushesTheReturnAddress : Prop :=
  ∀ (nnn : Word16) (s : State),
    (s.sp.val ≠ 16 → ∃ t, exec (.call nnn) s = .next t ∧ t.pc = nnn ∧ t.sp.val = s.sp.val + 1 ∧
      (∀ j (h : j < 16), t.stack[j] = if j = s.sp.val then s.pc + 2 else s.stack[j]) ∧ KeepsBut [.pc, .stack, .sp] s t) ∧
    (s.sp.val = 16 → ∃ t, exec (.call nnn) s = .next t ∧ t.fault = some (.stackOverflow s.pc) ∧ KeepsBut [.fault] s t)

/-- 00EE (41_flow.md R100): `sp` falls by 1, `PC` is the popped entry, the entry keeps its value; an empty stack faults
(decision D4; notes/assumptions/1.md). -/
def Obligations.ReturnPopsTheReturnAddress : Prop :=
  ∀ s : State,
    (∀ h : 0 < s.sp.val, ∃ t, exec .ret s = .next t ∧ t.sp.val = s.sp.val - 1 ∧
      t.pc = s.stack[s.sp.val - 1]'(by have := s.sp.isLt; omega) ∧ KeepsBut [.pc, .sp] s t) ∧
    (s.sp.val = 0 → ∃ t, exec .ret s = .next t ∧ t.fault = some (.stackUnderflow s.pc) ∧ KeepsBut [.fault] s t)

/-- A return resumes after the matching call, whatever the subroutine did, if it left `sp` and the stack as the call left them
(41_flow.md R102). -/
def Obligations.ReturnUndoesCall : Prop :=
  ∀ (nnn : Word16) (s t u : State), s.sp.val ≠ 16 → exec (.call nnn) s = .next t → u.sp = t.sp → u.stack = t.stack →
    ∃ w, exec .ret u = .next w ∧ w.pc = s.pc + 2 ∧ w.sp = s.sp

/-! ## Skips -/

/-- 3XNN and 4XNN (42_skip.md R110, R111). -/
def Obligations.SkipsOnImmediate : Prop :=
  ∀ (x : Reg) (nn : Byte) (s : State),
    (∃ t, exec (.seImm x nn) s = .next t ∧ t.pc = (if s.getV x = nn then s.pc + 4 else s.pc + 2) ∧ KeepsBut [.pc] s t) ∧
    (∃ t, exec (.sneImm x nn) s = .next t ∧ t.pc = (if s.getV x ≠ nn then s.pc + 4 else s.pc + 2) ∧ KeepsBut [.pc] s t)

/-- 5XY0 and 9XY0 (42_skip.md R112, R113). -/
def Obligations.SkipsOnRegisters : Prop :=
  ∀ (x y : Reg) (s : State),
    (∃ t, exec (.seReg x y) s = .next t ∧ t.pc = (if s.getV x = s.getV y then s.pc + 4 else s.pc + 2) ∧
      KeepsBut [.pc] s t) ∧
    (∃ t, exec (.sneReg x y) s = .next t ∧ t.pc = (if s.getV x ≠ s.getV y then s.pc + 4 else s.pc + 2) ∧
      KeepsBut [.pc] s t)

/-- EX9E and EXA1 (47_keys.md R160, R161): a key number above 15 faults (decision D7; notes/assumptions/1.md). -/
def Obligations.SkipsOnKeys : Prop :=
  ∀ (x : Reg) (s : State),
    (∀ h : (s.getV x).toNat < 16,
      (∃ t, exec (.skp x) s = .next t ∧ t.pc = (if s.key[(s.getV x).toNat] = true then s.pc + 4 else s.pc + 2) ∧
        KeepsBut [.pc] s t) ∧
      (∃ t, exec (.sknp x) s = .next t ∧ t.pc = (if s.key[(s.getV x).toNat] = false then s.pc + 4 else s.pc + 2) ∧
        KeepsBut [.pc] s t)) ∧
    (15 < (s.getV x).toNat →
      (∃ t, exec (.skp x) s = .next t ∧ t.fault = some (.keyIndexOutOfRange s.pc (s.getV x)) ∧ KeepsBut [.fault] s t) ∧
      (∃ t, exec (.sknp x) s = .next t ∧ t.fault = some (.keyIndexOutOfRange s.pc (s.getV x)) ∧ KeepsBut [.fault] s t))

/-! ## Registers -/

/-- 6XNN and 7XNN (43_load_add_immediate.md R120, R121): 7XNN wraps modulo 256; no flag. -/
def Obligations.ImmediatesSetTheRegister : Prop :=
  ∀ (x : Reg) (nn : Byte) (s : State),
    (∃ t, exec (.ldImm x nn) s = .next t ∧ t.pc = s.pc + 2 ∧
      (∀ r, t.getV r = if r = x then nn else s.getV r) ∧ KeepsBut [.pc, .v] s t) ∧
    (∃ t, exec (.addImm x nn) s = .next t ∧ t.pc = s.pc + 2 ∧ (t.getV x).toNat = ((s.getV x).toNat + nn.toNat) % 256 ∧
      (∀ r, r ≠ x → t.getV r = s.getV r) ∧ KeepsBut [.pc, .v] s t)

/-- 8XY0 (44_alu.md R127): no flag. -/
def Obligations.RegisterCopies : Prop :=
  ∀ (x y : Reg) (s : State), ∃ t, exec (.ldReg x y) s = .next t ∧ t.pc = s.pc + 2 ∧
    (∀ r, t.getV r = if r = x then s.getV y else s.getV r) ∧ KeepsBut [.pc, .v] s t

/-- 8XY1, 8XY2, 8XY3 (44_alu.md R128 to R130): bit by bit, and `VF` is forced to 0 last. -/
def Obligations.LogicClearsTheFlag : Prop :=
  ∀ (x y : Reg) (s : State),
    (∃ t, exec (.or x y) s = .next t ∧ t.pc = s.pc + 2 ∧ t.getV VF = 0 ∧
      (x ≠ VF → ∀ k, (t.getV x).getLsbD k = ((s.getV x).getLsbD k || (s.getV y).getLsbD k)) ∧
      (∀ r, r ≠ x → r ≠ VF → t.getV r = s.getV r) ∧ KeepsBut [.pc, .v] s t) ∧
    (∃ t, exec (.and x y) s = .next t ∧ t.pc = s.pc + 2 ∧ t.getV VF = 0 ∧
      (x ≠ VF → ∀ k, (t.getV x).getLsbD k = ((s.getV x).getLsbD k && (s.getV y).getLsbD k)) ∧
      (∀ r, r ≠ x → r ≠ VF → t.getV r = s.getV r) ∧ KeepsBut [.pc, .v] s t) ∧
    (∃ t, exec (.xor x y) s = .next t ∧ t.pc = s.pc + 2 ∧ t.getV VF = 0 ∧
      (x ≠ VF → ∀ k, (t.getV x).getLsbD k = ((s.getV x).getLsbD k ^^ (s.getV y).getLsbD k)) ∧
      (∀ r, r ≠ x → r ≠ VF → t.getV r = s.getV r) ∧ KeepsBut [.pc, .v] s t)

/-- 8XY4 (44_alu.md R131): the sum modulo 256, the carry in `VF`, written last. -/
def Obligations.AddSetsTheCarry : Prop :=
  ∀ (x y : Reg) (s : State), ∃ t, exec (.addReg x y) s = .next t ∧ t.pc = s.pc + 2 ∧
    t.getV VF = (if (s.getV x).toNat + (s.getV y).toNat > 255 then 1 else 0) ∧
    (x ≠ VF → (t.getV x).toNat = ((s.getV x).toNat + (s.getV y).toNat) % 256) ∧
    (∀ r, r ≠ x → r ≠ VF → t.getV r = s.getV r) ∧ KeepsBut [.pc, .v] s t

/-- 8XY5 and 8XY7 (44_alu.md R132, R134): the difference, 256 added where it is negative, and the not-borrow in `VF`, written
last from the old operands (R126, which rests on the spec's decision D9; notes/assumptions/14.md). -/
def Obligations.SubtractsSetTheNotBorrow : Prop :=
  ∀ (x y : Reg) (s : State),
    (∃ t, exec (.sub x y) s = .next t ∧ t.pc = s.pc + 2 ∧
      t.getV VF = (if (s.getV x).toNat ≥ (s.getV y).toNat then 1 else 0) ∧
      (x ≠ VF → (t.getV x).toNat = if (s.getV x).toNat ≥ (s.getV y).toNat then (s.getV x).toNat - (s.getV y).toNat
        else (s.getV x).toNat + 256 - (s.getV y).toNat) ∧
      (∀ r, r ≠ x → r ≠ VF → t.getV r = s.getV r) ∧ KeepsBut [.pc, .v] s t) ∧
    (∃ t, exec (.subn x y) s = .next t ∧ t.pc = s.pc + 2 ∧
      t.getV VF = (if (s.getV x).toNat ≤ (s.getV y).toNat then 1 else 0) ∧
      (x ≠ VF → (t.getV x).toNat = if (s.getV x).toNat ≤ (s.getV y).toNat then (s.getV y).toNat - (s.getV x).toNat
        else (s.getV y).toNat + 256 - (s.getV x).toNat) ∧
      (∀ r, r ≠ x → r ≠ VF → t.getV r = s.getV r) ∧ KeepsBut [.pc, .v] s t)

/-- 8XY6 and 8XYE (44_alu.md R133, R135): `V[Y]` shifted by one into `V[X]`, the bit shifted out in `VF`, written last. -/
def Obligations.ShiftsReadVY : Prop :=
  ∀ (x y : Reg) (s : State),
    (∃ t, exec (.shr x y) s = .next t ∧ t.pc = s.pc + 2 ∧ (t.getV VF).toNat = (s.getV y).toNat % 2 ∧
      (x ≠ VF → (t.getV x).toNat = (s.getV y).toNat / 2) ∧
      (∀ r, r ≠ x → r ≠ VF → t.getV r = s.getV r) ∧ KeepsBut [.pc, .v] s t) ∧
    (∃ t, exec (.shl x y) s = .next t ∧ t.pc = s.pc + 2 ∧ (t.getV VF).toNat = (s.getV y).toNat / 128 ∧
      (x ≠ VF → (t.getV x).toNat = 2 * (s.getV y).toNat % 256) ∧
      (∀ r, r ≠ x → r ≠ VF → t.getV r = s.getV r) ∧ KeepsBut [.pc, .v] s t)

/-- ANNN, FX1E, FX29 (45_index_random.md R140, R142, R143): `I` alone, modulo 65536, unmasked (FX29 by conflict
C1, notes/assumptions/14.md); `VF` unaffected. -/
def Obligations.IndexRegisterWrites : Prop :=
  ∀ (x : Reg) (nnn : Word16) (s : State),
    (∃ t, exec (.ldI nnn) s = .next t ∧ t.pc = s.pc + 2 ∧ t.i = nnn ∧ KeepsBut [.pc, .i] s t) ∧
    (∃ t, exec (.addI x) s = .next t ∧ t.pc = s.pc + 2 ∧ t.i.toNat = (s.i.toNat + (s.getV x).toNat) % 65536 ∧
      KeepsBut [.pc, .i] s t) ∧
    (∃ t, exec (.ldFont x) s = .next t ∧ t.pc = s.pc + 2 ∧ t.i.toNat = (s.getV x).toNat * 5 ∧ KeepsBut [.pc, .i] s t)

/-- CXNN (45_index_random.md R141, decision D16; notes/assumptions/2.md): the random byte of the step under the mask, for
every value of the byte; never a 1 where the mask has a 0. -/
def Obligations.RandomIsUnderTheMask : Prop :=
  ∀ (x : Reg) (nn : Byte) (s : State), ∃ t, exec (.rnd x nn) s = .next t ∧ t.pc = s.pc + 2 ∧
    (∀ r, t.getV r = if r = x then s.turn.rnd &&& nn else s.getV r) ∧ t.getV x &&& ~~~nn = 0 ∧ KeepsBut [.pc, .v] s t

/-- FX07, FX15, FX18 (48_timer_instructions.md R170 to R172), before the ticks of their step. -/
def Obligations.TimerInstructionsMoveTheTimers : Prop :=
  ∀ (x : Reg) (s : State),
    (∃ t, exec (.ldDelay x) s = .next t ∧ t.pc = s.pc + 2 ∧ (∀ r, t.getV r = if r = x then s.dt else s.getV r) ∧
      KeepsBut [.pc, .v] s t) ∧
    (∃ t, exec (.setDelay x) s = .next t ∧ t.pc = s.pc + 2 ∧ t.dt = s.getV x ∧ KeepsBut [.pc, .dt] s t) ∧
    (∃ t, exec (.setSound x) s = .next t ∧ t.pc = s.pc + 2 ∧ t.st = s.getV x ∧ KeepsBut [.pc, .st] s t)

/-- FX0A (47_keys.md R162): the lowest pressed key and `PC` on, or nothing at all changes, `PC` included. -/
def Obligations.KeyWaitTakesTheLowestKey : Prop :=
  ∀ (x : Reg) (s : State),
    (∀ k, s.keyDown k = true → (∀ j, j < k → s.keyDown j = false) →
      ∃ t, exec (.waitKey x) s = .next t ∧ t.pc = s.pc + 2 ∧ (t.getV x).toNat = k ∧
        (∀ r, r ≠ x → t.getV r = s.getV r) ∧ KeepsBut [.pc, .v] s t) ∧
    ((∀ k, s.keyDown k = false) → ∃ t, exec (.waitKey x) s = .next t ∧ KeepsBut [] s t)

/-! ## The display -/

/-- 00E0 (46_display.md R150): every pixel 0; `VF` and `drawFlag` keep their values. -/
def Obligations.ClearBlanksTheDisplay : Prop :=
  ∀ s : State, ∃ t, exec .cls s = .next t ∧ t.pc = s.pc + 2 ∧ (∀ x y, pixel t.display x y = false) ∧
    KeepsBut [.pc, .display] s t

/-- DXYN (46_display.md R152, R153 (d)): the display after is the old one XOR the sprite placed at `(V[X] mod 64, V[Y] mod 32)`
and clipped; `VF` is 1 exactly when a sprite bit fell on a pixel that was 1; `drawFlag` is set. The bit order and the axes are
the spec's own choice (decision D12; notes/assumptions/11.md), and so are the range tested and the moment `VF` is cleared (D5,
D10, D11). -/
def Obligations.DrawXorsTheClippedSprite : Prop :=
  ∀ (x y : Reg) (n : Nat) (s : State), (n = 0 ∨ s.i.toNat + n - 1 < s.params.memSize) →
    ∃ t, exec (.drw x y n) s = .next t ∧ t.pc = s.pc + 2 ∧ t.drawFlag = true ∧
      (∀ px py, px < 64 → py < 32 →
        pixel t.display px py = (pixel s.display px py ^^ spriteBit s x y n px py)) ∧
      (t.getV VF = 0 ∨ t.getV VF = 1) ∧
      (t.getV VF = 1 ↔ ∃ px py, px < 64 ∧ py < 32 ∧ spriteBit s x y n px py = true ∧ pixel s.display px py = true) ∧
      (∀ r, r ≠ VF → t.getV r = s.getV r) ∧ KeepsBut [.pc, .v, .display, .drawFlag] s t

/-- Drawing the same sprite at the same place twice restores the display, whatever it was; and where the first draw did not
collide, the second collides exactly when the sprite has a bit that is 1 and not clipped (46_display.md R153 (a), read with
R152; notes/assumptions/20.md). -/
def Obligations.DrawingTwiceRestoresTheDisplay : Prop :=
  ∀ (x y : Reg) (n : Nat) (s t u : State), (n = 0 ∨ s.i.toNat + n - 1 < s.params.memSize) → x ≠ VF → y ≠ VF →
    exec (.drw x y n) s = .next t → exec (.drw x y n) t = .next u →
    u.display = s.display ∧
    (t.getV VF = 0 → (u.getV VF = 1 ↔ ∃ px py, px < 64 ∧ py < 32 ∧ spriteBit s x y n px py = true))

/-- The last clause of 46_display.md R153 (a) taken to the letter, for every display: it is expected to FAIL, because a first
draw that erases its pixels leaves nothing for the second to collide with (R152; notes/assumptions/20.md). -/
def Obligations.SecondDrawCollidesOnEveryDisplay : Prop :=
  ∀ (x y : Reg) (n : Nat) (s t u : State), (n = 0 ∨ s.i.toNat + n - 1 < s.params.memSize) → x ≠ VF → y ≠ VF →
    exec (.drw x y n) s = .next t → exec (.drw x y n) t = .next u →
    (u.getV VF = 1 ↔ ∃ px py, px < 64 ∧ py < 32 ∧ spriteBit s x y n px py = true)

/-- A DXYN on a blank display ends with `VF = 0` (46_display.md R153 (c)). -/
def Obligations.DrawOnBlankDisplayDoesNotCollide : Prop :=
  ∀ (x y : Reg) (n : Nat) (s : State), (n = 0 ∨ s.i.toNat + n - 1 < s.params.memSize) →
    (∀ px py, pixel s.display px py = false) → ∃ t, exec (.drw x y n) s = .next t ∧ t.getV VF = 0

/-- A DXYN changes no pixel outside the rectangle of the clipped sprite (46_display.md R153 (b)). -/
def Obligations.DrawStaysInItsRectangle : Prop :=
  ∀ (x y : Reg) (n : Nat) (s t : State) (px py : Nat), exec (.drw x y n) s = .next t →
    ¬ (s.spriteColumn x ≤ px ∧ px ≤ min (s.spriteColumn x + 7) 63 ∧
      s.spriteRow y ≤ py ∧ py < min (s.spriteRow y + n) 32) →
    pixel t.display px py = pixel s.display px py

/-! ## Memory -/

/-- A byte written is read back at its address and no other byte changes, for any memory size and font (20_memory.md R51,
R56). -/
def Obligations.ReadAfterWrite : Prop :=
  ∀ (p : Params) (m : List Host.Cell) (a c : Nat) (b : Byte), a < p.memSize →
    memRead p (memWrite p m a b) c = if c = a then b else memRead p m c

/-- Two memories in canonical form that read alike everywhere are the same data (the model's own form of memory,
notes/assumptions/8.md; 20_memory.md R50). -/
def Obligations.CanonicalMemoryIsDetermined : Prop :=
  ∀ (p : Params) (m m' : List Host.Cell), Memory.wf p m = true → Memory.wf p m' = true →
    (∀ a, memRead p m a = memRead p m' a) → m = m'

/-- FX33 (49_memory_transfer.md R176): the three digits at `I`, `I + 1`, `I + 2`, every other byte unchanged, `I` unchanged; a
range that leaves memory faults (decision D5; notes/assumptions/1.md). -/
def Obligations.BcdStoresThreeDigits : Prop :=
  ∀ (x : Reg) (s : State),
    (s.i.toNat + 2 < s.params.memSize → ∃ t, exec (.storeBcd x) s = .next t ∧ t.pc = s.pc + 2 ∧
      (t.readByte s.i.toNat).toNat = (s.getV x).toNat / 100 ∧
      (t.readByte (s.i.toNat + 1)).toNat = (s.getV x).toNat / 10 % 10 ∧
      (t.readByte (s.i.toNat + 2)).toNat = (s.getV x).toNat % 10 ∧
      (∀ a, (a < s.i.toNat ∨ s.i.toNat + 3 ≤ a) → t.readByte a = s.readByte a) ∧ KeepsBut [.pc, .mem] s t) ∧
    (s.params.memSize ≤ s.i.toNat + 2 → ∃ t, exec (.storeBcd x) s = .next t ∧
      t.fault = some (.memoryOutOfBounds s.pc (s.i.toNat + 2)) ∧ KeepsBut [.fault] s t)

/-- FX55 (49_memory_transfer.md R177): `Mem[I + k] = V[k]` for `k` up to `X`, every other byte unchanged, `I` advanced by
`X + 1` modulo 65536 (10_state.md R24); a range that leaves memory faults (decision D5; notes/assumptions/1.md). -/
def Obligations.StoreWritesTheRegisters : Prop :=
  ∀ (x : Reg) (s : State),
    (s.i.toNat + x.val < s.params.memSize → ∃ t, exec (.storeRegs x) s = .next t ∧ t.pc = s.pc + 2 ∧
      (∀ r : Reg, r ≤ x → t.readByte (s.i.toNat + r.val) = s.getV r) ∧
      (∀ a, (a < s.i.toNat ∨ s.i.toNat + x.val + 1 ≤ a) → t.readByte a = s.readByte a) ∧
      t.i.toNat = (s.i.toNat + x.val + 1) % 65536 ∧ KeepsBut [.pc, .mem, .i] s t) ∧
    (s.params.memSize ≤ s.i.toNat + x.val → ∃ t, exec (.storeRegs x) s = .next t ∧
      t.fault = some (.memoryOutOfBounds s.pc (s.i.toNat + x.val)) ∧ KeepsBut [.fault] s t)

/-- FX65 (49_memory_transfer.md R178): `V[k] = Mem[I + k]` for `k` up to `X`, the registers above unchanged, `I` advanced by
`X + 1` modulo 65536 (10_state.md R24); a range that leaves memory faults (decision D5; notes/assumptions/1.md). -/
def Obligations.LoadReadsTheRegisters : Prop :=
  ∀ (x : Reg) (s : State),
    (s.i.toNat + x.val < s.params.memSize → ∃ t, exec (.loadRegs x) s = .next t ∧ t.pc = s.pc + 2 ∧
      (∀ r : Reg, t.getV r = if r ≤ x then s.readByte (s.i.toNat + r.val) else s.getV r) ∧
      t.i.toNat = (s.i.toNat + x.val + 1) % 65536 ∧ KeepsBut [.pc, .v, .i] s t) ∧
    (s.params.memSize ≤ s.i.toNat + x.val → ∃ t, exec (.loadRegs x) s = .next t ∧
      t.fault = some (.memoryOutOfBounds s.pc (s.i.toNat + x.val)) ∧ KeepsBut [.fault] s t)

/-- FX65 is the inverse of FX55: with `I` set back, it loads what was stored, whatever the registers hold by then
(49_memory_transfer.md R178). -/
def Obligations.LoadUndoesStore : Prop :=
  ∀ (x : Reg) (s t u : State), s.i.toNat + x.val < s.params.memSize → exec (.storeRegs x) s = .next t →
    u.mem = t.mem → u.params = t.params → u.i = s.i → ∃ w, exec (.loadRegs x) u = .next w ∧ ∀ r : Reg, r ≤ x → w.getV r = s.getV r

/-- Fetch is coherent with stores: a byte FX55 or FX33 has stored is the byte the next fetch reads at its address, as the high
byte where `PC` points at it and as the low byte where `PC + 1` does (20_memory.md R63, which the spec derives). -/
def Obligations.StoredBytesAreFetched : Prop :=
  (∀ (x : Reg) (s t u : State), s.i.toNat + x.val < s.params.memSize → exec (.storeRegs x) s = .next t →
    u.mem = t.mem → u.params = t.params → u.pc.toNat + 1 < u.params.memSize → ∃ op, u.fetch = some op ∧
      (∀ r : Reg, r ≤ x → u.pc.toNat = s.i.toNat + r.val → op.toNat / 256 = (s.getV r).toNat) ∧
      (∀ r : Reg, r ≤ x → u.pc.toNat + 1 = s.i.toNat + r.val → op.toNat % 256 = (s.getV r).toNat)) ∧
  (∀ (x : Reg) (s t u : State), s.i.toNat + 2 < s.params.memSize → exec (.storeBcd x) s = .next t →
    u.mem = t.mem → u.params = t.params → u.pc.toNat + 1 < u.params.memSize → ∃ op, u.fetch = some op ∧
      (u.pc.toNat = s.i.toNat → op.toNat / 256 = (s.getV x).toNat / 100) ∧
      (u.pc.toNat = s.i.toNat + 1 → op.toNat / 256 = (s.getV x).toNat / 10 % 10) ∧
      (u.pc.toNat = s.i.toNat + 2 → op.toNat / 256 = (s.getV x).toNat % 10) ∧
      (u.pc.toNat + 1 = s.i.toNat → op.toNat % 256 = (s.getV x).toNat / 100) ∧
      (u.pc.toNat + 1 = s.i.toNat + 1 → op.toNat % 256 = (s.getV x).toNat / 10 % 10) ∧
      (u.pc.toNat + 1 = s.i.toNat + 2 → op.toNat % 256 = (s.getV x).toNat % 10))

/-- `LoadProgram` (70_reset_and_hazards.md R232): an image that fits lies at 0x200 byte for byte, and nothing else changes; a
longer one is refused. -/
def Obligations.RomLoadCopiesTheImage : Prop :=
  ∀ (rom : List Byte) (s : State),
    (rom.length ≤ s.params.memSize - 0x200 → ∃ t, s.loadProgram rom = .next t ∧
      (∀ k (h : k < rom.length), t.readByte (0x200 + k) = rom[k]) ∧
      (∀ a, (a < 0x200 ∨ 0x200 + rom.length ≤ a) → t.readByte a = s.readByte a) ∧ KeepsBut [.mem] s t) ∧
    (s.params.memSize - 0x200 < rom.length → s.loadProgram rom = .refused (.romTooLarge rom.length))
end

