-- ==== Sys2Proof/Laws/Memory.lean ====
section
/-! SUPPORT. What each memory operation does to the read of one byte, and that every one of them keeps the canonical form. -/

namespace Sys2Proof.Machine

variable (p : Params)

@[simp] theorem memRead_nil (a : Nat) : memRead p [] a = p.resetByte a := rfl

theorem memRead_memInsert (m : List Host.Cell) (a c : Nat) (b : Byte) :
    memRead p (memInsert m a b) c = if c = a then b else memRead p m c := by
  induction m with
  | nil => simp [memInsert, memRead, eq_comm]
  | cons cell m ih =>
    simp only [memInsert]
    split
    · simp [memRead, eq_comm]
    · split
      · next h => subst h; by_cases hc : c = cell.1 <;> simp [memRead, eq_comm, hc]
      · next h => simp only [memRead, ih]; by_cases hc : cell.1 = c <;> simp_all [eq_comm]

theorem memRead_memErase (m : List Host.Cell) (a c : Nat) :
    memRead p (memErase m a) c = if c = a then p.resetByte a else memRead p m c := by
  induction m with
  | nil => by_cases h : c = a <;> simp [memErase, h]
  | cons cell m ih =>
    simp only [memErase]
    split
    · next h => subst h; rw [ih]; by_cases hc : c = cell.1 <;> simp [memRead, hc, eq_comm]
    · next h => simp only [memRead, ih]; by_cases hc : cell.1 = c <;> simp_all [eq_comm]

/-- A write changes the byte written, where memory has it, and no other. -/
theorem memRead_memWrite (m : List Host.Cell) (a c : Nat) (b : Byte) :
    memRead p (memWrite p m a b) c = if c = a ∧ a < p.memSize then b else memRead p m c := by
  unfold memWrite
  split
  · next h =>
    split
    · next hb => rw [memRead_memErase]; by_cases hc : c = a <;> simp [hc, h, hb]
    · rw [memRead_memInsert]; by_cases hc : c = a <;> simp [hc, h]
  · next h => simp [h]

@[simp] theorem memWriteBytes_nil (m : List Host.Cell) (a : Nat) : memWriteBytes p m a [] = m := rfl

@[simp] theorem memWriteBytes_cons (m : List Host.Cell) (a : Nat) (b : Byte) (bs : List Byte) :
    memWriteBytes p m a (b :: bs) = memWriteBytes p (memWrite p m a b) (a + 1) bs := rfl

/-- Bytes written inside memory: each address of the range reads as its byte, every other as before. -/
theorem memRead_memWriteBytes (m : List Host.Cell) (a c : Nat) (bs : List Byte) (h : a + bs.length ≤ p.memSize) :
    memRead p (memWriteBytes p m a bs) c = if a ≤ c ∧ c < a + bs.length then bs.getD (c - a) 0 else memRead p m c := by
  induction bs generalizing m a with
  | nil => simp
  | cons b bs ih =>
    simp only [List.length_cons] at h ⊢
    rw [memWriteBytes_cons, ih _ _ (by omega), memRead_memWrite]
    by_cases h1 : a + 1 ≤ c ∧ c < a + 1 + bs.length
    · rw [if_pos h1, if_pos (by omega), show c - a = c - (a + 1) + 1 by omega]; simp
    · rw [if_neg h1]
      by_cases h2 : c = a
      · subst h2; rw [if_pos (by omega), if_pos (by omega)]; simp
      · rw [if_neg (by omega), if_neg (by omega)]

@[simp] theorem length_memReadBytes (m : List Host.Cell) (a n : Nat) : (memReadBytes p m a n).length = n := by
  simp [memReadBytes]

theorem getElem_memReadBytes (m : List Host.Cell) (a n k : Nat) (h : k < (memReadBytes p m a n).length) :
    (memReadBytes p m a n)[k] = memRead p m (a + k) := by
  simp [memReadBytes]

/-- The range test (20_memory.md R51). -/
theorem inMemory_iff (a : Nat) : inMemory p a = true ↔ a < p.memSize := by unfold inMemory; exact decide_eq_true_iff

/-! The canonical form. -/

theorem memWfFrom_cons (lo : Nat) (cell : Host.Cell) (m : List Host.Cell) :
    memWfFrom p lo (cell :: m) = true ↔
      (lo ≤ cell.1 ∧ cell.1 < p.memSize ∧ cell.2 ≠ p.resetByte cell.1) ∧ memWfFrom p (cell.1 + 1) m = true := by
  simp [memWfFrom, and_assoc]

theorem memWfFrom_mono {lo lo' : Nat} {m : List Host.Cell} (h : lo' ≤ lo) (hm : memWfFrom p lo m = true) :
    memWfFrom p lo' m = true := by
  cases m with
  | nil => rfl
  | cons cell m => rw [memWfFrom_cons] at hm ⊢; exact ⟨⟨by omega, hm.1.2⟩, hm.2⟩

theorem memInsert_wf {lo a : Nat} {b : Byte} {m : List Host.Cell} (hlo : lo ≤ a) (ha : a < p.memSize)
    (hb : b ≠ p.resetByte a) (hm : memWfFrom p lo m = true) : memWfFrom p lo (memInsert m a b) = true := by
  induction m generalizing lo with
  | nil => exact (memWfFrom_cons p ..).2 ⟨⟨hlo, ha, hb⟩, rfl⟩
  | cons cell m ih =>
    rw [memWfFrom_cons] at hm
    simp only [memInsert]
    split
    · exact (memWfFrom_cons p ..).2 ⟨⟨hlo, ha, hb⟩, (memWfFrom_cons p ..).2 ⟨⟨by simp; omega, hm.1.2⟩, hm.2⟩⟩
    · split
      · next h => exact (memWfFrom_cons p ..).2 ⟨⟨hlo, ha, hb⟩, by rw [h]; exact hm.2⟩
      · exact (memWfFrom_cons p ..).2 ⟨hm.1, ih (by omega) hm.2⟩

theorem memErase_wf {lo a : Nat} {m : List Host.Cell} (hm : memWfFrom p lo m = true) : memWfFrom p lo (memErase m a) = true := by
  induction m generalizing lo with
  | nil => rfl
  | cons cell m ih =>
    rw [memWfFrom_cons] at hm
    simp only [memErase]
    split
    · exact memWfFrom_mono p (by omega) (ih hm.2)
    · exact (memWfFrom_cons p ..).2 ⟨hm.1, ih hm.2⟩

/-- A write keeps the canonical form. -/
theorem memWrite_wf {m : List Host.Cell} (a : Nat) (b : Byte) (hm : Memory.wf p m = true) :
    Memory.wf p (memWrite p m a b) = true := by
  unfold memWrite
  split
  · split
    · exact memErase_wf p hm
    · exact memInsert_wf p (Nat.zero_le _) ‹_› ‹_› hm
  · exact hm

/-- Writing bytes keeps the canonical form. -/
theorem memWriteBytes_wf {m : List Host.Cell} (a : Nat) (bs : List Byte) (hm : Memory.wf p m = true) :
    Memory.wf p (memWriteBytes p m a bs) = true := by
  induction bs generalizing m a with
  | nil => exact hm
  | cons b bs ih => exact ih _ (memWrite_wf p a b hm)

/-- The memory of reset has the canonical form. -/
theorem reset_mem_wf : Memory.wf p (State.resetWith p).mem = true := rfl

end Sys2Proof.Machine
end

