-- ==== Sys2Proof/Laws/State.lean ====
section
/-! SUPPORT. One lemma per field per update of the state, so that no later proof unfolds a record update. -/

namespace Sys2Proof.Machine

variable (s : State)

@[simp] theorem State.setV_v (r : Reg) (b : Byte) : (s.setV r b).v = s.v.set r.val b := rfl
@[simp] theorem State.setV_pc (r : Reg) (b : Byte) : (s.setV r b).pc = s.pc := rfl
@[simp] theorem State.setV_i (r : Reg) (b : Byte) : (s.setV r b).i = s.i := rfl
@[simp] theorem State.setV_stack (r : Reg) (b : Byte) : (s.setV r b).stack = s.stack := rfl
@[simp] theorem State.setV_sp (r : Reg) (b : Byte) : (s.setV r b).sp = s.sp := rfl
@[simp] theorem State.setV_mem (r : Reg) (b : Byte) : (s.setV r b).mem = s.mem := rfl
@[simp] theorem State.setV_display (r : Reg) (b : Byte) : (s.setV r b).display = s.display := rfl
@[simp] theorem State.setV_key (r : Reg) (b : Byte) : (s.setV r b).key = s.key := rfl
@[simp] theorem State.setV_dt (r : Reg) (b : Byte) : (s.setV r b).dt = s.dt := rfl
@[simp] theorem State.setV_st (r : Reg) (b : Byte) : (s.setV r b).st = s.st := rfl
@[simp] theorem State.setV_acc (r : Reg) (b : Byte) : (s.setV r b).acc = s.acc := rfl
@[simp] theorem State.setV_drawFlag (r : Reg) (b : Byte) : (s.setV r b).drawFlag = s.drawFlag := rfl
@[simp] theorem State.setV_soundFlag (r : Reg) (b : Byte) : (s.setV r b).soundFlag = s.soundFlag := rfl
@[simp] theorem State.setV_fault (r : Reg) (b : Byte) : (s.setV r b).fault = s.fault := rfl
@[simp] theorem State.setV_reports (r : Reg) (b : Byte) : (s.setV r b).reports = s.reports := rfl
@[simp] theorem State.setV_inputs (r : Reg) (b : Byte) : (s.setV r b).inputs = s.inputs := rfl
@[simp] theorem State.setV_turnNo (r : Reg) (b : Byte) : (s.setV r b).turnNo = s.turnNo := rfl
@[simp] theorem State.setV_params (r : Reg) (b : Byte) : (s.setV r b).params = s.params := rfl

@[simp] theorem State.setPc_v (a : Word16) : (s.setPc a).v = s.v := rfl
@[simp] theorem State.setPc_pc (a : Word16) : (s.setPc a).pc = a := rfl
@[simp] theorem State.setPc_i (a : Word16) : (s.setPc a).i = s.i := rfl
@[simp] theorem State.setPc_stack (a : Word16) : (s.setPc a).stack = s.stack := rfl
@[simp] theorem State.setPc_sp (a : Word16) : (s.setPc a).sp = s.sp := rfl
@[simp] theorem State.setPc_mem (a : Word16) : (s.setPc a).mem = s.mem := rfl
@[simp] theorem State.setPc_display (a : Word16) : (s.setPc a).display = s.display := rfl
@[simp] theorem State.setPc_key (a : Word16) : (s.setPc a).key = s.key := rfl
@[simp] theorem State.setPc_dt (a : Word16) : (s.setPc a).dt = s.dt := rfl
@[simp] theorem State.setPc_st (a : Word16) : (s.setPc a).st = s.st := rfl
@[simp] theorem State.setPc_acc (a : Word16) : (s.setPc a).acc = s.acc := rfl
@[simp] theorem State.setPc_drawFlag (a : Word16) : (s.setPc a).drawFlag = s.drawFlag := rfl
@[simp] theorem State.setPc_soundFlag (a : Word16) : (s.setPc a).soundFlag = s.soundFlag := rfl
@[simp] theorem State.setPc_fault (a : Word16) : (s.setPc a).fault = s.fault := rfl
@[simp] theorem State.setPc_reports (a : Word16) : (s.setPc a).reports = s.reports := rfl
@[simp] theorem State.setPc_inputs (a : Word16) : (s.setPc a).inputs = s.inputs := rfl
@[simp] theorem State.setPc_turnNo (a : Word16) : (s.setPc a).turnNo = s.turnNo := rfl
@[simp] theorem State.setPc_params (a : Word16) : (s.setPc a).params = s.params := rfl

@[simp] theorem State.setI_v (a : Word16) : (s.setI a).v = s.v := rfl
@[simp] theorem State.setI_pc (a : Word16) : (s.setI a).pc = s.pc := rfl
@[simp] theorem State.setI_i (a : Word16) : (s.setI a).i = a := rfl
@[simp] theorem State.setI_stack (a : Word16) : (s.setI a).stack = s.stack := rfl
@[simp] theorem State.setI_sp (a : Word16) : (s.setI a).sp = s.sp := rfl
@[simp] theorem State.setI_mem (a : Word16) : (s.setI a).mem = s.mem := rfl
@[simp] theorem State.setI_display (a : Word16) : (s.setI a).display = s.display := rfl
@[simp] theorem State.setI_key (a : Word16) : (s.setI a).key = s.key := rfl
@[simp] theorem State.setI_dt (a : Word16) : (s.setI a).dt = s.dt := rfl
@[simp] theorem State.setI_st (a : Word16) : (s.setI a).st = s.st := rfl
@[simp] theorem State.setI_acc (a : Word16) : (s.setI a).acc = s.acc := rfl
@[simp] theorem State.setI_drawFlag (a : Word16) : (s.setI a).drawFlag = s.drawFlag := rfl
@[simp] theorem State.setI_soundFlag (a : Word16) : (s.setI a).soundFlag = s.soundFlag := rfl
@[simp] theorem State.setI_fault (a : Word16) : (s.setI a).fault = s.fault := rfl
@[simp] theorem State.setI_reports (a : Word16) : (s.setI a).reports = s.reports := rfl
@[simp] theorem State.setI_inputs (a : Word16) : (s.setI a).inputs = s.inputs := rfl
@[simp] theorem State.setI_turnNo (a : Word16) : (s.setI a).turnNo = s.turnNo := rfl
@[simp] theorem State.setI_params (a : Word16) : (s.setI a).params = s.params := rfl

@[simp] theorem State.setDt_v (b : Byte) : (s.setDt b).v = s.v := rfl
@[simp] theorem State.setDt_pc (b : Byte) : (s.setDt b).pc = s.pc := rfl
@[simp] theorem State.setDt_i (b : Byte) : (s.setDt b).i = s.i := rfl
@[simp] theorem State.setDt_stack (b : Byte) : (s.setDt b).stack = s.stack := rfl
@[simp] theorem State.setDt_sp (b : Byte) : (s.setDt b).sp = s.sp := rfl
@[simp] theorem State.setDt_mem (b : Byte) : (s.setDt b).mem = s.mem := rfl
@[simp] theorem State.setDt_display (b : Byte) : (s.setDt b).display = s.display := rfl
@[simp] theorem State.setDt_key (b : Byte) : (s.setDt b).key = s.key := rfl
@[simp] theorem State.setDt_dt (b : Byte) : (s.setDt b).dt = b := rfl
@[simp] theorem State.setDt_st (b : Byte) : (s.setDt b).st = s.st := rfl
@[simp] theorem State.setDt_acc (b : Byte) : (s.setDt b).acc = s.acc := rfl
@[simp] theorem State.setDt_drawFlag (b : Byte) : (s.setDt b).drawFlag = s.drawFlag := rfl
@[simp] theorem State.setDt_soundFlag (b : Byte) : (s.setDt b).soundFlag = s.soundFlag := rfl
@[simp] theorem State.setDt_fault (b : Byte) : (s.setDt b).fault = s.fault := rfl
@[simp] theorem State.setDt_reports (b : Byte) : (s.setDt b).reports = s.reports := rfl
@[simp] theorem State.setDt_inputs (b : Byte) : (s.setDt b).inputs = s.inputs := rfl
@[simp] theorem State.setDt_turnNo (b : Byte) : (s.setDt b).turnNo = s.turnNo := rfl
@[simp] theorem State.setDt_params (b : Byte) : (s.setDt b).params = s.params := rfl

@[simp] theorem State.setSt_v (b : Byte) : (s.setSt b).v = s.v := rfl
@[simp] theorem State.setSt_pc (b : Byte) : (s.setSt b).pc = s.pc := rfl
@[simp] theorem State.setSt_i (b : Byte) : (s.setSt b).i = s.i := rfl
@[simp] theorem State.setSt_stack (b : Byte) : (s.setSt b).stack = s.stack := rfl
@[simp] theorem State.setSt_sp (b : Byte) : (s.setSt b).sp = s.sp := rfl
@[simp] theorem State.setSt_mem (b : Byte) : (s.setSt b).mem = s.mem := rfl
@[simp] theorem State.setSt_display (b : Byte) : (s.setSt b).display = s.display := rfl
@[simp] theorem State.setSt_key (b : Byte) : (s.setSt b).key = s.key := rfl
@[simp] theorem State.setSt_dt (b : Byte) : (s.setSt b).dt = s.dt := rfl
@[simp] theorem State.setSt_st (b : Byte) : (s.setSt b).st = b := rfl
@[simp] theorem State.setSt_acc (b : Byte) : (s.setSt b).acc = s.acc := rfl
@[simp] theorem State.setSt_drawFlag (b : Byte) : (s.setSt b).drawFlag = s.drawFlag := rfl
@[simp] theorem State.setSt_soundFlag (b : Byte) : (s.setSt b).soundFlag = s.soundFlag := rfl
@[simp] theorem State.setSt_fault (b : Byte) : (s.setSt b).fault = s.fault := rfl
@[simp] theorem State.setSt_reports (b : Byte) : (s.setSt b).reports = s.reports := rfl
@[simp] theorem State.setSt_inputs (b : Byte) : (s.setSt b).inputs = s.inputs := rfl
@[simp] theorem State.setSt_turnNo (b : Byte) : (s.setSt b).turnNo = s.turnNo := rfl
@[simp] theorem State.setSt_params (b : Byte) : (s.setSt b).params = s.params := rfl

@[simp] theorem State.setMem_v (m : List Host.Cell) : (s.setMem m).v = s.v := rfl
@[simp] theorem State.setMem_pc (m : List Host.Cell) : (s.setMem m).pc = s.pc := rfl
@[simp] theorem State.setMem_i (m : List Host.Cell) : (s.setMem m).i = s.i := rfl
@[simp] theorem State.setMem_stack (m : List Host.Cell) : (s.setMem m).stack = s.stack := rfl
@[simp] theorem State.setMem_sp (m : List Host.Cell) : (s.setMem m).sp = s.sp := rfl
@[simp] theorem State.setMem_mem (m : List Host.Cell) : (s.setMem m).mem = m := rfl
@[simp] theorem State.setMem_display (m : List Host.Cell) : (s.setMem m).display = s.display := rfl
@[simp] theorem State.setMem_key (m : List Host.Cell) : (s.setMem m).key = s.key := rfl
@[simp] theorem State.setMem_dt (m : List Host.Cell) : (s.setMem m).dt = s.dt := rfl
@[simp] theorem State.setMem_st (m : List Host.Cell) : (s.setMem m).st = s.st := rfl
@[simp] theorem State.setMem_acc (m : List Host.Cell) : (s.setMem m).acc = s.acc := rfl
@[simp] theorem State.setMem_drawFlag (m : List Host.Cell) : (s.setMem m).drawFlag = s.drawFlag := rfl
@[simp] theorem State.setMem_soundFlag (m : List Host.Cell) : (s.setMem m).soundFlag = s.soundFlag := rfl
@[simp] theorem State.setMem_fault (m : List Host.Cell) : (s.setMem m).fault = s.fault := rfl
@[simp] theorem State.setMem_reports (m : List Host.Cell) : (s.setMem m).reports = s.reports := rfl
@[simp] theorem State.setMem_inputs (m : List Host.Cell) : (s.setMem m).inputs = s.inputs := rfl
@[simp] theorem State.setMem_turnNo (m : List Host.Cell) : (s.setMem m).turnNo = s.turnNo := rfl
@[simp] theorem State.setMem_params (m : List Host.Cell) : (s.setMem m).params = s.params := rfl

@[simp] theorem State.setDisplay_v (d : Display) : (s.setDisplay d).v = s.v := rfl
@[simp] theorem State.setDisplay_pc (d : Display) : (s.setDisplay d).pc = s.pc := rfl
@[simp] theorem State.setDisplay_i (d : Display) : (s.setDisplay d).i = s.i := rfl
@[simp] theorem State.setDisplay_stack (d : Display) : (s.setDisplay d).stack = s.stack := rfl
@[simp] theorem State.setDisplay_sp (d : Display) : (s.setDisplay d).sp = s.sp := rfl
@[simp] theorem State.setDisplay_mem (d : Display) : (s.setDisplay d).mem = s.mem := rfl
@[simp] theorem State.setDisplay_display (d : Display) : (s.setDisplay d).display = d := rfl
@[simp] theorem State.setDisplay_key (d : Display) : (s.setDisplay d).key = s.key := rfl
@[simp] theorem State.setDisplay_dt (d : Display) : (s.setDisplay d).dt = s.dt := rfl
@[simp] theorem State.setDisplay_st (d : Display) : (s.setDisplay d).st = s.st := rfl
@[simp] theorem State.setDisplay_acc (d : Display) : (s.setDisplay d).acc = s.acc := rfl
@[simp] theorem State.setDisplay_drawFlag (d : Display) : (s.setDisplay d).drawFlag = s.drawFlag := rfl
@[simp] theorem State.setDisplay_soundFlag (d : Display) : (s.setDisplay d).soundFlag = s.soundFlag := rfl
@[simp] theorem State.setDisplay_fault (d : Display) : (s.setDisplay d).fault = s.fault := rfl
@[simp] theorem State.setDisplay_reports (d : Display) : (s.setDisplay d).reports = s.reports := rfl
@[simp] theorem State.setDisplay_inputs (d : Display) : (s.setDisplay d).inputs = s.inputs := rfl
@[simp] theorem State.setDisplay_turnNo (d : Display) : (s.setDisplay d).turnNo = s.turnNo := rfl
@[simp] theorem State.setDisplay_params (d : Display) : (s.setDisplay d).params = s.params := rfl

@[simp] theorem State.setDrawFlag_v (f : Bool) : (s.setDrawFlag f).v = s.v := rfl
@[simp] theorem State.setDrawFlag_pc (f : Bool) : (s.setDrawFlag f).pc = s.pc := rfl
@[simp] theorem State.setDrawFlag_i (f : Bool) : (s.setDrawFlag f).i = s.i := rfl
@[simp] theorem State.setDrawFlag_stack (f : Bool) : (s.setDrawFlag f).stack = s.stack := rfl
@[simp] theorem State.setDrawFlag_sp (f : Bool) : (s.setDrawFlag f).sp = s.sp := rfl
@[simp] theorem State.setDrawFlag_mem (f : Bool) : (s.setDrawFlag f).mem = s.mem := rfl
@[simp] theorem State.setDrawFlag_display (f : Bool) : (s.setDrawFlag f).display = s.display := rfl
@[simp] theorem State.setDrawFlag_key (f : Bool) : (s.setDrawFlag f).key = s.key := rfl
@[simp] theorem State.setDrawFlag_dt (f : Bool) : (s.setDrawFlag f).dt = s.dt := rfl
@[simp] theorem State.setDrawFlag_st (f : Bool) : (s.setDrawFlag f).st = s.st := rfl
@[simp] theorem State.setDrawFlag_acc (f : Bool) : (s.setDrawFlag f).acc = s.acc := rfl
@[simp] theorem State.setDrawFlag_drawFlag (f : Bool) : (s.setDrawFlag f).drawFlag = f := rfl
@[simp] theorem State.setDrawFlag_soundFlag (f : Bool) : (s.setDrawFlag f).soundFlag = s.soundFlag := rfl
@[simp] theorem State.setDrawFlag_fault (f : Bool) : (s.setDrawFlag f).fault = s.fault := rfl
@[simp] theorem State.setDrawFlag_reports (f : Bool) : (s.setDrawFlag f).reports = s.reports := rfl
@[simp] theorem State.setDrawFlag_inputs (f : Bool) : (s.setDrawFlag f).inputs = s.inputs := rfl
@[simp] theorem State.setDrawFlag_turnNo (f : Bool) : (s.setDrawFlag f).turnNo = s.turnNo := rfl
@[simp] theorem State.setDrawFlag_params (f : Bool) : (s.setDrawFlag f).params = s.params := rfl

@[simp] theorem State.writeKeys_v (k : Vector Bool 16) : (s.writeKeys k).v = s.v := rfl
@[simp] theorem State.writeKeys_pc (k : Vector Bool 16) : (s.writeKeys k).pc = s.pc := rfl
@[simp] theorem State.writeKeys_i (k : Vector Bool 16) : (s.writeKeys k).i = s.i := rfl
@[simp] theorem State.writeKeys_stack (k : Vector Bool 16) : (s.writeKeys k).stack = s.stack := rfl
@[simp] theorem State.writeKeys_sp (k : Vector Bool 16) : (s.writeKeys k).sp = s.sp := rfl
@[simp] theorem State.writeKeys_mem (k : Vector Bool 16) : (s.writeKeys k).mem = s.mem := rfl
@[simp] theorem State.writeKeys_display (k : Vector Bool 16) : (s.writeKeys k).display = s.display := rfl
@[simp] theorem State.writeKeys_key (k : Vector Bool 16) : (s.writeKeys k).key = k := rfl
@[simp] theorem State.writeKeys_dt (k : Vector Bool 16) : (s.writeKeys k).dt = s.dt := rfl
@[simp] theorem State.writeKeys_st (k : Vector Bool 16) : (s.writeKeys k).st = s.st := rfl
@[simp] theorem State.writeKeys_acc (k : Vector Bool 16) : (s.writeKeys k).acc = s.acc := rfl
@[simp] theorem State.writeKeys_drawFlag (k : Vector Bool 16) : (s.writeKeys k).drawFlag = s.drawFlag := rfl
@[simp] theorem State.writeKeys_soundFlag (k : Vector Bool 16) : (s.writeKeys k).soundFlag = s.soundFlag := rfl
@[simp] theorem State.writeKeys_fault (k : Vector Bool 16) : (s.writeKeys k).fault = s.fault := rfl
@[simp] theorem State.writeKeys_reports (k : Vector Bool 16) : (s.writeKeys k).reports = s.reports := rfl
@[simp] theorem State.writeKeys_inputs (k : Vector Bool 16) : (s.writeKeys k).inputs = s.inputs := rfl
@[simp] theorem State.writeKeys_turnNo (k : Vector Bool 16) : (s.writeKeys k).turnNo = s.turnNo := rfl
@[simp] theorem State.writeKeys_params (k : Vector Bool 16) : (s.writeKeys k).params = s.params := rfl

@[simp] theorem State.advance_v : (s.advance).v = s.v := rfl
@[simp] theorem State.advance_pc : (s.advance).pc = s.pc + 2 := rfl
@[simp] theorem State.advance_i : (s.advance).i = s.i := rfl
@[simp] theorem State.advance_stack : (s.advance).stack = s.stack := rfl
@[simp] theorem State.advance_sp : (s.advance).sp = s.sp := rfl
@[simp] theorem State.advance_mem : (s.advance).mem = s.mem := rfl
@[simp] theorem State.advance_display : (s.advance).display = s.display := rfl
@[simp] theorem State.advance_key : (s.advance).key = s.key := rfl
@[simp] theorem State.advance_dt : (s.advance).dt = s.dt := rfl
@[simp] theorem State.advance_st : (s.advance).st = s.st := rfl
@[simp] theorem State.advance_acc : (s.advance).acc = s.acc := rfl
@[simp] theorem State.advance_drawFlag : (s.advance).drawFlag = s.drawFlag := rfl
@[simp] theorem State.advance_soundFlag : (s.advance).soundFlag = s.soundFlag := rfl
@[simp] theorem State.advance_fault : (s.advance).fault = s.fault := rfl
@[simp] theorem State.advance_reports : (s.advance).reports = s.reports := rfl
@[simp] theorem State.advance_inputs : (s.advance).inputs = s.inputs := rfl
@[simp] theorem State.advance_turnNo : (s.advance).turnNo = s.turnNo := rfl
@[simp] theorem State.advance_params : (s.advance).params = s.params := rfl

@[simp] theorem State.skipIf_v (c : Bool) : (s.skipIf c).v = s.v := rfl
@[simp] theorem State.skipIf_pc (c : Bool) : (s.skipIf c).pc = if c then s.pc + 2 else s.pc := rfl
@[simp] theorem State.skipIf_i (c : Bool) : (s.skipIf c).i = s.i := rfl
@[simp] theorem State.skipIf_stack (c : Bool) : (s.skipIf c).stack = s.stack := rfl
@[simp] theorem State.skipIf_sp (c : Bool) : (s.skipIf c).sp = s.sp := rfl
@[simp] theorem State.skipIf_mem (c : Bool) : (s.skipIf c).mem = s.mem := rfl
@[simp] theorem State.skipIf_display (c : Bool) : (s.skipIf c).display = s.display := rfl
@[simp] theorem State.skipIf_key (c : Bool) : (s.skipIf c).key = s.key := rfl
@[simp] theorem State.skipIf_dt (c : Bool) : (s.skipIf c).dt = s.dt := rfl
@[simp] theorem State.skipIf_st (c : Bool) : (s.skipIf c).st = s.st := rfl
@[simp] theorem State.skipIf_acc (c : Bool) : (s.skipIf c).acc = s.acc := rfl
@[simp] theorem State.skipIf_drawFlag (c : Bool) : (s.skipIf c).drawFlag = s.drawFlag := rfl
@[simp] theorem State.skipIf_soundFlag (c : Bool) : (s.skipIf c).soundFlag = s.soundFlag := rfl
@[simp] theorem State.skipIf_fault (c : Bool) : (s.skipIf c).fault = s.fault := rfl
@[simp] theorem State.skipIf_reports (c : Bool) : (s.skipIf c).reports = s.reports := rfl
@[simp] theorem State.skipIf_inputs (c : Bool) : (s.skipIf c).inputs = s.inputs := rfl
@[simp] theorem State.skipIf_turnNo (c : Bool) : (s.skipIf c).turnNo = s.turnNo := rfl
@[simp] theorem State.skipIf_params (c : Bool) : (s.skipIf c).params = s.params := rfl

@[simp] theorem State.raise_v (r : FaultRecord) : (s.raise r).v = s.v := rfl
@[simp] theorem State.raise_pc (r : FaultRecord) : (s.raise r).pc = s.pc := rfl
@[simp] theorem State.raise_i (r : FaultRecord) : (s.raise r).i = s.i := rfl
@[simp] theorem State.raise_stack (r : FaultRecord) : (s.raise r).stack = s.stack := rfl
@[simp] theorem State.raise_sp (r : FaultRecord) : (s.raise r).sp = s.sp := rfl
@[simp] theorem State.raise_mem (r : FaultRecord) : (s.raise r).mem = s.mem := rfl
@[simp] theorem State.raise_display (r : FaultRecord) : (s.raise r).display = s.display := rfl
@[simp] theorem State.raise_key (r : FaultRecord) : (s.raise r).key = s.key := rfl
@[simp] theorem State.raise_dt (r : FaultRecord) : (s.raise r).dt = s.dt := rfl
@[simp] theorem State.raise_st (r : FaultRecord) : (s.raise r).st = s.st := rfl
@[simp] theorem State.raise_acc (r : FaultRecord) : (s.raise r).acc = s.acc := rfl
@[simp] theorem State.raise_drawFlag (r : FaultRecord) : (s.raise r).drawFlag = s.drawFlag := rfl
@[simp] theorem State.raise_soundFlag (r : FaultRecord) : (s.raise r).soundFlag = s.soundFlag := rfl
@[simp] theorem State.raise_fault (r : FaultRecord) : (s.raise r).fault = some r := rfl
@[simp] theorem State.raise_reports (r : FaultRecord) : (s.raise r).reports = s.reports := rfl
@[simp] theorem State.raise_inputs (r : FaultRecord) : (s.raise r).inputs = s.inputs := rfl
@[simp] theorem State.raise_turnNo (r : FaultRecord) : (s.raise r).turnNo = s.turnNo := rfl
@[simp] theorem State.raise_params (r : FaultRecord) : (s.raise r).params = s.params := rfl

@[simp] theorem State.push_v (a : Word16) (h : s.sp.val < 16) : (s.push a h).v = s.v := rfl
@[simp] theorem State.push_pc (a : Word16) (h : s.sp.val < 16) : (s.push a h).pc = s.pc := rfl
@[simp] theorem State.push_i (a : Word16) (h : s.sp.val < 16) : (s.push a h).i = s.i := rfl
@[simp] theorem State.push_stack (a : Word16) (h : s.sp.val < 16) : (s.push a h).stack = s.stack.set s.sp.val a := rfl
@[simp] theorem State.push_sp (a : Word16) (h : s.sp.val < 16) : (s.push a h).sp = ⟨s.sp.val + 1, by omega⟩ := rfl
@[simp] theorem State.push_mem (a : Word16) (h : s.sp.val < 16) : (s.push a h).mem = s.mem := rfl
@[simp] theorem State.push_display (a : Word16) (h : s.sp.val < 16) : (s.push a h).display = s.display := rfl
@[simp] theorem State.push_key (a : Word16) (h : s.sp.val < 16) : (s.push a h).key = s.key := rfl
@[simp] theorem State.push_dt (a : Word16) (h : s.sp.val < 16) : (s.push a h).dt = s.dt := rfl
@[simp] theorem State.push_st (a : Word16) (h : s.sp.val < 16) : (s.push a h).st = s.st := rfl
@[simp] theorem State.push_acc (a : Word16) (h : s.sp.val < 16) : (s.push a h).acc = s.acc := rfl
@[simp] theorem State.push_drawFlag (a : Word16) (h : s.sp.val < 16) : (s.push a h).drawFlag = s.drawFlag := rfl
@[simp] theorem State.push_soundFlag (a : Word16) (h : s.sp.val < 16) : (s.push a h).soundFlag = s.soundFlag := rfl
@[simp] theorem State.push_fault (a : Word16) (h : s.sp.val < 16) : (s.push a h).fault = s.fault := rfl
@[simp] theorem State.push_reports (a : Word16) (h : s.sp.val < 16) : (s.push a h).reports = s.reports := rfl
@[simp] theorem State.push_inputs (a : Word16) (h : s.sp.val < 16) : (s.push a h).inputs = s.inputs := rfl
@[simp] theorem State.push_turnNo (a : Word16) (h : s.sp.val < 16) : (s.push a h).turnNo = s.turnNo := rfl
@[simp] theorem State.push_params (a : Word16) (h : s.sp.val < 16) : (s.push a h).params = s.params := rfl

@[simp] theorem State.popPc_v (h : 0 < s.sp.val) : (s.popPc h).v = s.v := rfl
@[simp] theorem State.popPc_pc (h : 0 < s.sp.val) : (s.popPc h).pc = s.stack[s.sp.val - 1]'(by omega) := rfl
@[simp] theorem State.popPc_i (h : 0 < s.sp.val) : (s.popPc h).i = s.i := rfl
@[simp] theorem State.popPc_stack (h : 0 < s.sp.val) : (s.popPc h).stack = s.stack := rfl
@[simp] theorem State.popPc_sp (h : 0 < s.sp.val) : (s.popPc h).sp = ⟨s.sp.val - 1, by omega⟩ := rfl
@[simp] theorem State.popPc_mem (h : 0 < s.sp.val) : (s.popPc h).mem = s.mem := rfl
@[simp] theorem State.popPc_display (h : 0 < s.sp.val) : (s.popPc h).display = s.display := rfl
@[simp] theorem State.popPc_key (h : 0 < s.sp.val) : (s.popPc h).key = s.key := rfl
@[simp] theorem State.popPc_dt (h : 0 < s.sp.val) : (s.popPc h).dt = s.dt := rfl
@[simp] theorem State.popPc_st (h : 0 < s.sp.val) : (s.popPc h).st = s.st := rfl
@[simp] theorem State.popPc_acc (h : 0 < s.sp.val) : (s.popPc h).acc = s.acc := rfl
@[simp] theorem State.popPc_drawFlag (h : 0 < s.sp.val) : (s.popPc h).drawFlag = s.drawFlag := rfl
@[simp] theorem State.popPc_soundFlag (h : 0 < s.sp.val) : (s.popPc h).soundFlag = s.soundFlag := rfl
@[simp] theorem State.popPc_fault (h : 0 < s.sp.val) : (s.popPc h).fault = s.fault := rfl
@[simp] theorem State.popPc_reports (h : 0 < s.sp.val) : (s.popPc h).reports = s.reports := rfl
@[simp] theorem State.popPc_inputs (h : 0 < s.sp.val) : (s.popPc h).inputs = s.inputs := rfl
@[simp] theorem State.popPc_turnNo (h : 0 < s.sp.val) : (s.popPc h).turnNo = s.turnNo := rfl
@[simp] theorem State.popPc_params (h : 0 < s.sp.val) : (s.popPc h).params = s.params := rfl

@[simp] theorem State.writeAtI_v (bs : List Byte) : (s.writeAtI bs).v = s.v := rfl
@[simp] theorem State.writeAtI_pc (bs : List Byte) : (s.writeAtI bs).pc = s.pc := rfl
@[simp] theorem State.writeAtI_i (bs : List Byte) : (s.writeAtI bs).i = s.i := rfl
@[simp] theorem State.writeAtI_stack (bs : List Byte) : (s.writeAtI bs).stack = s.stack := rfl
@[simp] theorem State.writeAtI_sp (bs : List Byte) : (s.writeAtI bs).sp = s.sp := rfl
@[simp] theorem State.writeAtI_mem (bs : List Byte) : (s.writeAtI bs).mem = memWriteBytes s.params s.mem s.i.toNat bs := rfl
@[simp] theorem State.writeAtI_display (bs : List Byte) : (s.writeAtI bs).display = s.display := rfl
@[simp] theorem State.writeAtI_key (bs : List Byte) : (s.writeAtI bs).key = s.key := rfl
@[simp] theorem State.writeAtI_dt (bs : List Byte) : (s.writeAtI bs).dt = s.dt := rfl
@[simp] theorem State.writeAtI_st (bs : List Byte) : (s.writeAtI bs).st = s.st := rfl
@[simp] theorem State.writeAtI_acc (bs : List Byte) : (s.writeAtI bs).acc = s.acc := rfl
@[simp] theorem State.writeAtI_drawFlag (bs : List Byte) : (s.writeAtI bs).drawFlag = s.drawFlag := rfl
@[simp] theorem State.writeAtI_soundFlag (bs : List Byte) : (s.writeAtI bs).soundFlag = s.soundFlag := rfl
@[simp] theorem State.writeAtI_fault (bs : List Byte) : (s.writeAtI bs).fault = s.fault := rfl
@[simp] theorem State.writeAtI_reports (bs : List Byte) : (s.writeAtI bs).reports = s.reports := rfl
@[simp] theorem State.writeAtI_inputs (bs : List Byte) : (s.writeAtI bs).inputs = s.inputs := rfl
@[simp] theorem State.writeAtI_turnNo (bs : List Byte) : (s.writeAtI bs).turnNo = s.turnNo := rfl
@[simp] theorem State.writeAtI_params (bs : List Byte) : (s.writeAtI bs).params = s.params := rfl

@[simp] theorem State.setRegs_v (bs : List Byte) : (s.setRegs bs).v = setRegsFrom 0 bs s.v := rfl
@[simp] theorem State.setRegs_pc (bs : List Byte) : (s.setRegs bs).pc = s.pc := rfl
@[simp] theorem State.setRegs_i (bs : List Byte) : (s.setRegs bs).i = s.i := rfl
@[simp] theorem State.setRegs_stack (bs : List Byte) : (s.setRegs bs).stack = s.stack := rfl
@[simp] theorem State.setRegs_sp (bs : List Byte) : (s.setRegs bs).sp = s.sp := rfl
@[simp] theorem State.setRegs_mem (bs : List Byte) : (s.setRegs bs).mem = s.mem := rfl
@[simp] theorem State.setRegs_display (bs : List Byte) : (s.setRegs bs).display = s.display := rfl
@[simp] theorem State.setRegs_key (bs : List Byte) : (s.setRegs bs).key = s.key := rfl
@[simp] theorem State.setRegs_dt (bs : List Byte) : (s.setRegs bs).dt = s.dt := rfl
@[simp] theorem State.setRegs_st (bs : List Byte) : (s.setRegs bs).st = s.st := rfl
@[simp] theorem State.setRegs_acc (bs : List Byte) : (s.setRegs bs).acc = s.acc := rfl
@[simp] theorem State.setRegs_drawFlag (bs : List Byte) : (s.setRegs bs).drawFlag = s.drawFlag := rfl
@[simp] theorem State.setRegs_soundFlag (bs : List Byte) : (s.setRegs bs).soundFlag = s.soundFlag := rfl
@[simp] theorem State.setRegs_fault (bs : List Byte) : (s.setRegs bs).fault = s.fault := rfl
@[simp] theorem State.setRegs_reports (bs : List Byte) : (s.setRegs bs).reports = s.reports := rfl
@[simp] theorem State.setRegs_inputs (bs : List Byte) : (s.setRegs bs).inputs = s.inputs := rfl
@[simp] theorem State.setRegs_turnNo (bs : List Byte) : (s.setRegs bs).turnNo = s.turnNo := rfl
@[simp] theorem State.setRegs_params (bs : List Byte) : (s.setRegs bs).params = s.params := rfl

@[simp] theorem State.bumpI_v (n : Nat) : (s.bumpI n).v = s.v := rfl
@[simp] theorem State.bumpI_pc (n : Nat) : (s.bumpI n).pc = s.pc := rfl
@[simp] theorem State.bumpI_i (n : Nat) : (s.bumpI n).i = s.i + BitVec.ofNat 16 n := rfl
@[simp] theorem State.bumpI_stack (n : Nat) : (s.bumpI n).stack = s.stack := rfl
@[simp] theorem State.bumpI_sp (n : Nat) : (s.bumpI n).sp = s.sp := rfl
@[simp] theorem State.bumpI_mem (n : Nat) : (s.bumpI n).mem = s.mem := rfl
@[simp] theorem State.bumpI_display (n : Nat) : (s.bumpI n).display = s.display := rfl
@[simp] theorem State.bumpI_key (n : Nat) : (s.bumpI n).key = s.key := rfl
@[simp] theorem State.bumpI_dt (n : Nat) : (s.bumpI n).dt = s.dt := rfl
@[simp] theorem State.bumpI_st (n : Nat) : (s.bumpI n).st = s.st := rfl
@[simp] theorem State.bumpI_acc (n : Nat) : (s.bumpI n).acc = s.acc := rfl
@[simp] theorem State.bumpI_drawFlag (n : Nat) : (s.bumpI n).drawFlag = s.drawFlag := rfl
@[simp] theorem State.bumpI_soundFlag (n : Nat) : (s.bumpI n).soundFlag = s.soundFlag := rfl
@[simp] theorem State.bumpI_fault (n : Nat) : (s.bumpI n).fault = s.fault := rfl
@[simp] theorem State.bumpI_reports (n : Nat) : (s.bumpI n).reports = s.reports := rfl
@[simp] theorem State.bumpI_inputs (n : Nat) : (s.bumpI n).inputs = s.inputs := rfl
@[simp] theorem State.bumpI_turnNo (n : Nat) : (s.bumpI n).turnNo = s.turnNo := rfl
@[simp] theorem State.bumpI_params (n : Nat) : (s.bumpI n).params = s.params := rfl

@[simp] theorem State.setFlag_v (f : Bool) : (s.setFlag f).v = s.v.set VF.val (flagByte f) := rfl
@[simp] theorem State.setFlag_pc (f : Bool) : (s.setFlag f).pc = s.pc := rfl
@[simp] theorem State.setFlag_i (f : Bool) : (s.setFlag f).i = s.i := rfl
@[simp] theorem State.setFlag_stack (f : Bool) : (s.setFlag f).stack = s.stack := rfl
@[simp] theorem State.setFlag_sp (f : Bool) : (s.setFlag f).sp = s.sp := rfl
@[simp] theorem State.setFlag_mem (f : Bool) : (s.setFlag f).mem = s.mem := rfl
@[simp] theorem State.setFlag_display (f : Bool) : (s.setFlag f).display = s.display := rfl
@[simp] theorem State.setFlag_key (f : Bool) : (s.setFlag f).key = s.key := rfl
@[simp] theorem State.setFlag_dt (f : Bool) : (s.setFlag f).dt = s.dt := rfl
@[simp] theorem State.setFlag_st (f : Bool) : (s.setFlag f).st = s.st := rfl
@[simp] theorem State.setFlag_acc (f : Bool) : (s.setFlag f).acc = s.acc := rfl
@[simp] theorem State.setFlag_drawFlag (f : Bool) : (s.setFlag f).drawFlag = s.drawFlag := rfl
@[simp] theorem State.setFlag_soundFlag (f : Bool) : (s.setFlag f).soundFlag = s.soundFlag := rfl
@[simp] theorem State.setFlag_fault (f : Bool) : (s.setFlag f).fault = s.fault := rfl
@[simp] theorem State.setFlag_reports (f : Bool) : (s.setFlag f).reports = s.reports := rfl
@[simp] theorem State.setFlag_inputs (f : Bool) : (s.setFlag f).inputs = s.inputs := rfl
@[simp] theorem State.setFlag_turnNo (f : Bool) : (s.setFlag f).turnNo = s.turnNo := rfl
@[simp] theorem State.setFlag_params (f : Bool) : (s.setFlag f).params = s.params := rfl

@[simp] theorem State.setResult_v (x : Reg) (r : Byte × Bool) : (s.setResult x r).v = (s.v.set x.val r.1).set VF.val (flagByte r.2) := rfl
@[simp] theorem State.setResult_pc (x : Reg) (r : Byte × Bool) : (s.setResult x r).pc = s.pc := rfl
@[simp] theorem State.setResult_i (x : Reg) (r : Byte × Bool) : (s.setResult x r).i = s.i := rfl
@[simp] theorem State.setResult_stack (x : Reg) (r : Byte × Bool) : (s.setResult x r).stack = s.stack := rfl
@[simp] theorem State.setResult_sp (x : Reg) (r : Byte × Bool) : (s.setResult x r).sp = s.sp := rfl
@[simp] theorem State.setResult_mem (x : Reg) (r : Byte × Bool) : (s.setResult x r).mem = s.mem := rfl
@[simp] theorem State.setResult_display (x : Reg) (r : Byte × Bool) : (s.setResult x r).display = s.display := rfl
@[simp] theorem State.setResult_key (x : Reg) (r : Byte × Bool) : (s.setResult x r).key = s.key := rfl
@[simp] theorem State.setResult_dt (x : Reg) (r : Byte × Bool) : (s.setResult x r).dt = s.dt := rfl
@[simp] theorem State.setResult_st (x : Reg) (r : Byte × Bool) : (s.setResult x r).st = s.st := rfl
@[simp] theorem State.setResult_acc (x : Reg) (r : Byte × Bool) : (s.setResult x r).acc = s.acc := rfl
@[simp] theorem State.setResult_drawFlag (x : Reg) (r : Byte × Bool) : (s.setResult x r).drawFlag = s.drawFlag := rfl
@[simp] theorem State.setResult_soundFlag (x : Reg) (r : Byte × Bool) : (s.setResult x r).soundFlag = s.soundFlag := rfl
@[simp] theorem State.setResult_fault (x : Reg) (r : Byte × Bool) : (s.setResult x r).fault = s.fault := rfl
@[simp] theorem State.setResult_reports (x : Reg) (r : Byte × Bool) : (s.setResult x r).reports = s.reports := rfl
@[simp] theorem State.setResult_inputs (x : Reg) (r : Byte × Bool) : (s.setResult x r).inputs = s.inputs := rfl
@[simp] theorem State.setResult_turnNo (x : Reg) (r : Byte × Bool) : (s.setResult x r).turnNo = s.turnNo := rfl
@[simp] theorem State.setResult_params (x : Reg) (r : Byte × Bool) : (s.setResult x r).params = s.params := rfl

@[simp] theorem State.unmatched_v (op : Word16) : (s.unmatched op).v = s.v := rfl
@[simp] theorem State.unmatched_pc (op : Word16) : (s.unmatched op).pc = s.pc + 2 := rfl
@[simp] theorem State.unmatched_i (op : Word16) : (s.unmatched op).i = s.i := rfl
@[simp] theorem State.unmatched_stack (op : Word16) : (s.unmatched op).stack = s.stack := rfl
@[simp] theorem State.unmatched_sp (op : Word16) : (s.unmatched op).sp = s.sp := rfl
@[simp] theorem State.unmatched_mem (op : Word16) : (s.unmatched op).mem = s.mem := rfl
@[simp] theorem State.unmatched_display (op : Word16) : (s.unmatched op).display = s.display := rfl
@[simp] theorem State.unmatched_key (op : Word16) : (s.unmatched op).key = s.key := rfl
@[simp] theorem State.unmatched_dt (op : Word16) : (s.unmatched op).dt = s.dt := rfl
@[simp] theorem State.unmatched_st (op : Word16) : (s.unmatched op).st = s.st := rfl
@[simp] theorem State.unmatched_acc (op : Word16) : (s.unmatched op).acc = s.acc := rfl
@[simp] theorem State.unmatched_drawFlag (op : Word16) : (s.unmatched op).drawFlag = s.drawFlag := rfl
@[simp] theorem State.unmatched_soundFlag (op : Word16) : (s.unmatched op).soundFlag = s.soundFlag := rfl
@[simp] theorem State.unmatched_fault (op : Word16) : (s.unmatched op).fault = s.fault := rfl
@[simp] theorem State.unmatched_reports (op : Word16) : (s.unmatched op).reports = s.reports ++ [{ addr := s.pc, op := op }] := rfl
@[simp] theorem State.unmatched_inputs (op : Word16) : (s.unmatched op).inputs = s.inputs := rfl
@[simp] theorem State.unmatched_turnNo (op : Word16) : (s.unmatched op).turnNo = s.turnNo := rfl
@[simp] theorem State.unmatched_params (op : Word16) : (s.unmatched op).params = s.params := rfl

@[simp] theorem State.hostMoves_v : (s.hostMoves).v = s.v := rfl
@[simp] theorem State.hostMoves_pc : (s.hostMoves).pc = s.pc := rfl
@[simp] theorem State.hostMoves_i : (s.hostMoves).i = s.i := rfl
@[simp] theorem State.hostMoves_stack : (s.hostMoves).stack = s.stack := rfl
@[simp] theorem State.hostMoves_sp : (s.hostMoves).sp = s.sp := rfl
@[simp] theorem State.hostMoves_mem : (s.hostMoves).mem = s.mem := rfl
@[simp] theorem State.hostMoves_display : (s.hostMoves).display = s.display := rfl
@[simp] theorem State.hostMoves_key : (s.hostMoves).key = s.turn.keys.getD s.key := rfl
@[simp] theorem State.hostMoves_dt : (s.hostMoves).dt = s.dt := rfl
@[simp] theorem State.hostMoves_st : (s.hostMoves).st = s.st := rfl
@[simp] theorem State.hostMoves_acc : (s.hostMoves).acc = s.acc := rfl
@[simp] theorem State.hostMoves_drawFlag : (s.hostMoves).drawFlag = (s.drawFlag && !s.turn.clearDraw) := rfl
@[simp] theorem State.hostMoves_soundFlag : (s.hostMoves).soundFlag = s.soundFlag := rfl
@[simp] theorem State.hostMoves_fault : (s.hostMoves).fault = s.fault := rfl
@[simp] theorem State.hostMoves_reports : (s.hostMoves).reports = s.reports := rfl
@[simp] theorem State.hostMoves_inputs : (s.hostMoves).inputs = s.inputs := rfl
@[simp] theorem State.hostMoves_turnNo : (s.hostMoves).turnNo = s.turnNo := rfl
@[simp] theorem State.hostMoves_params : (s.hostMoves).params = s.params := rfl

@[simp] theorem State.nextTurn_v : (s.nextTurn).v = s.v := rfl
@[simp] theorem State.nextTurn_pc : (s.nextTurn).pc = s.pc := rfl
@[simp] theorem State.nextTurn_i : (s.nextTurn).i = s.i := rfl
@[simp] theorem State.nextTurn_stack : (s.nextTurn).stack = s.stack := rfl
@[simp] theorem State.nextTurn_sp : (s.nextTurn).sp = s.sp := rfl
@[simp] theorem State.nextTurn_mem : (s.nextTurn).mem = s.mem := rfl
@[simp] theorem State.nextTurn_display : (s.nextTurn).display = s.display := rfl
@[simp] theorem State.nextTurn_key : (s.nextTurn).key = s.key := rfl
@[simp] theorem State.nextTurn_dt : (s.nextTurn).dt = s.dt := rfl
@[simp] theorem State.nextTurn_st : (s.nextTurn).st = s.st := rfl
@[simp] theorem State.nextTurn_acc : (s.nextTurn).acc = s.acc := rfl
@[simp] theorem State.nextTurn_drawFlag : (s.nextTurn).drawFlag = s.drawFlag := rfl
@[simp] theorem State.nextTurn_soundFlag : (s.nextTurn).soundFlag = s.soundFlag := rfl
@[simp] theorem State.nextTurn_fault : (s.nextTurn).fault = s.fault := rfl
@[simp] theorem State.nextTurn_reports : (s.nextTurn).reports = s.reports := rfl
@[simp] theorem State.nextTurn_inputs : (s.nextTurn).inputs = s.inputs.tail := rfl
@[simp] theorem State.nextTurn_turnNo : (s.nextTurn).turnNo = s.turnNo + 1 := rfl
@[simp] theorem State.nextTurn_params : (s.nextTurn).params = s.params := rfl

@[simp] theorem State.timerUpdate_v : (s.timerUpdate).v = s.v := rfl
@[simp] theorem State.timerUpdate_pc : (s.timerUpdate).pc = s.pc := rfl
@[simp] theorem State.timerUpdate_i : (s.timerUpdate).i = s.i := rfl
@[simp] theorem State.timerUpdate_stack : (s.timerUpdate).stack = s.stack := rfl
@[simp] theorem State.timerUpdate_sp : (s.timerUpdate).sp = s.sp := rfl
@[simp] theorem State.timerUpdate_mem : (s.timerUpdate).mem = s.mem := rfl
@[simp] theorem State.timerUpdate_display : (s.timerUpdate).display = s.display := rfl
@[simp] theorem State.timerUpdate_key : (s.timerUpdate).key = s.key := rfl
@[simp] theorem State.timerUpdate_dt : (s.timerUpdate).dt = ticks (tickCount s.params s.acc s.turn.delta) s.dt := rfl
@[simp] theorem State.timerUpdate_st : (s.timerUpdate).st = ticks (tickCount s.params s.acc s.turn.delta) s.st := rfl
@[simp] theorem State.timerUpdate_acc : (s.timerUpdate).acc = accAfter s.params s.acc s.turn.delta := rfl
@[simp] theorem State.timerUpdate_drawFlag : (s.timerUpdate).drawFlag = s.drawFlag := rfl
@[simp] theorem State.timerUpdate_soundFlag : (s.timerUpdate).soundFlag = s.soundFlag := rfl
@[simp] theorem State.timerUpdate_fault : (s.timerUpdate).fault = s.fault := rfl
@[simp] theorem State.timerUpdate_reports : (s.timerUpdate).reports = s.reports := rfl
@[simp] theorem State.timerUpdate_inputs : (s.timerUpdate).inputs = s.inputs := rfl
@[simp] theorem State.timerUpdate_turnNo : (s.timerUpdate).turnNo = s.turnNo := rfl
@[simp] theorem State.timerUpdate_params : (s.timerUpdate).params = s.params := rfl

/-! The reads that go through an accessor. -/

@[simp] theorem State.setV_readByte (r : Reg) (b : Byte) (q : Nat) : (s.setV r b).readByte q = s.readByte q := rfl
@[simp] theorem State.setV_turn (r : Reg) (b : Byte) : (s.setV r b).turn = s.turn := rfl
@[simp] theorem State.setPc_getV (a : Word16) (q : Reg) : (s.setPc a).getV q = s.getV q := rfl
@[simp] theorem State.setPc_readByte (a : Word16) (q : Nat) : (s.setPc a).readByte q = s.readByte q := rfl
@[simp] theorem State.setPc_turn (a : Word16) : (s.setPc a).turn = s.turn := rfl
@[simp] theorem State.setI_getV (a : Word16) (q : Reg) : (s.setI a).getV q = s.getV q := rfl
@[simp] theorem State.setI_readByte (a : Word16) (q : Nat) : (s.setI a).readByte q = s.readByte q := rfl
@[simp] theorem State.setI_turn (a : Word16) : (s.setI a).turn = s.turn := rfl
@[simp] theorem State.setDt_getV (b : Byte) (q : Reg) : (s.setDt b).getV q = s.getV q := rfl
@[simp] theorem State.setDt_readByte (b : Byte) (q : Nat) : (s.setDt b).readByte q = s.readByte q := rfl
@[simp] theorem State.setDt_turn (b : Byte) : (s.setDt b).turn = s.turn := rfl
@[simp] theorem State.setSt_getV (b : Byte) (q : Reg) : (s.setSt b).getV q = s.getV q := rfl
@[simp] theorem State.setSt_readByte (b : Byte) (q : Nat) : (s.setSt b).readByte q = s.readByte q := rfl
@[simp] theorem State.setSt_turn (b : Byte) : (s.setSt b).turn = s.turn := rfl
@[simp] theorem State.setMem_getV (m : List Host.Cell) (q : Reg) : (s.setMem m).getV q = s.getV q := rfl
@[simp] theorem State.setMem_turn (m : List Host.Cell) : (s.setMem m).turn = s.turn := rfl
@[simp] theorem State.setDisplay_getV (d : Display) (q : Reg) : (s.setDisplay d).getV q = s.getV q := rfl
@[simp] theorem State.setDisplay_readByte (d : Display) (q : Nat) : (s.setDisplay d).readByte q = s.readByte q := rfl
@[simp] theorem State.setDisplay_turn (d : Display) : (s.setDisplay d).turn = s.turn := rfl
@[simp] theorem State.setDrawFlag_getV (f : Bool) (q : Reg) : (s.setDrawFlag f).getV q = s.getV q := rfl
@[simp] theorem State.setDrawFlag_readByte (f : Bool) (q : Nat) : (s.setDrawFlag f).readByte q = s.readByte q := rfl
@[simp] theorem State.setDrawFlag_turn (f : Bool) : (s.setDrawFlag f).turn = s.turn := rfl
@[simp] theorem State.writeKeys_getV (k : Vector Bool 16) (q : Reg) : (s.writeKeys k).getV q = s.getV q := rfl
@[simp] theorem State.writeKeys_readByte (k : Vector Bool 16) (q : Nat) : (s.writeKeys k).readByte q = s.readByte q := rfl
@[simp] theorem State.writeKeys_turn (k : Vector Bool 16) : (s.writeKeys k).turn = s.turn := rfl
@[simp] theorem State.advance_getV (q : Reg) : (s.advance).getV q = s.getV q := rfl
@[simp] theorem State.advance_readByte (q : Nat) : (s.advance).readByte q = s.readByte q := rfl
@[simp] theorem State.advance_turn : (s.advance).turn = s.turn := rfl
@[simp] theorem State.skipIf_getV (c : Bool) (q : Reg) : (s.skipIf c).getV q = s.getV q := rfl
@[simp] theorem State.skipIf_readByte (c : Bool) (q : Nat) : (s.skipIf c).readByte q = s.readByte q := rfl
@[simp] theorem State.skipIf_turn (c : Bool) : (s.skipIf c).turn = s.turn := rfl
@[simp] theorem State.raise_getV (r : FaultRecord) (q : Reg) : (s.raise r).getV q = s.getV q := rfl
@[simp] theorem State.raise_readByte (r : FaultRecord) (q : Nat) : (s.raise r).readByte q = s.readByte q := rfl
@[simp] theorem State.raise_turn (r : FaultRecord) : (s.raise r).turn = s.turn := rfl
@[simp] theorem State.push_getV (a : Word16) (h : s.sp.val < 16) (q : Reg) : (s.push a h).getV q = s.getV q := rfl
@[simp] theorem State.push_readByte (a : Word16) (h : s.sp.val < 16) (q : Nat) : (s.push a h).readByte q = s.readByte q := rfl
@[simp] theorem State.push_turn (a : Word16) (h : s.sp.val < 16) : (s.push a h).turn = s.turn := rfl
@[simp] theorem State.popPc_getV (h : 0 < s.sp.val) (q : Reg) : (s.popPc h).getV q = s.getV q := rfl
@[simp] theorem State.popPc_readByte (h : 0 < s.sp.val) (q : Nat) : (s.popPc h).readByte q = s.readByte q := rfl
@[simp] theorem State.popPc_turn (h : 0 < s.sp.val) : (s.popPc h).turn = s.turn := rfl
@[simp] theorem State.writeAtI_getV (bs : List Byte) (q : Reg) : (s.writeAtI bs).getV q = s.getV q := rfl
@[simp] theorem State.writeAtI_turn (bs : List Byte) : (s.writeAtI bs).turn = s.turn := rfl
@[simp] theorem State.setRegs_readByte (bs : List Byte) (q : Nat) : (s.setRegs bs).readByte q = s.readByte q := rfl
@[simp] theorem State.setRegs_turn (bs : List Byte) : (s.setRegs bs).turn = s.turn := rfl
@[simp] theorem State.bumpI_getV (n : Nat) (q : Reg) : (s.bumpI n).getV q = s.getV q := rfl
@[simp] theorem State.bumpI_readByte (n : Nat) (q : Nat) : (s.bumpI n).readByte q = s.readByte q := rfl
@[simp] theorem State.bumpI_turn (n : Nat) : (s.bumpI n).turn = s.turn := rfl
@[simp] theorem State.setFlag_readByte (f : Bool) (q : Nat) : (s.setFlag f).readByte q = s.readByte q := rfl
@[simp] theorem State.setFlag_turn (f : Bool) : (s.setFlag f).turn = s.turn := rfl
@[simp] theorem State.setResult_readByte (x : Reg) (r : Byte × Bool) (q : Nat) : (s.setResult x r).readByte q = s.readByte q := rfl
@[simp] theorem State.setResult_turn (x : Reg) (r : Byte × Bool) : (s.setResult x r).turn = s.turn := rfl
@[simp] theorem State.unmatched_getV (op : Word16) (q : Reg) : (s.unmatched op).getV q = s.getV q := rfl
@[simp] theorem State.unmatched_readByte (op : Word16) (q : Nat) : (s.unmatched op).readByte q = s.readByte q := rfl
@[simp] theorem State.unmatched_turn (op : Word16) : (s.unmatched op).turn = s.turn := rfl
@[simp] theorem State.hostMoves_getV (q : Reg) : (s.hostMoves).getV q = s.getV q := rfl
@[simp] theorem State.hostMoves_readByte (q : Nat) : (s.hostMoves).readByte q = s.readByte q := rfl
@[simp] theorem State.hostMoves_turn : (s.hostMoves).turn = s.turn := rfl
@[simp] theorem State.nextTurn_getV (q : Reg) : (s.nextTurn).getV q = s.getV q := rfl
@[simp] theorem State.nextTurn_readByte (q : Nat) : (s.nextTurn).readByte q = s.readByte q := rfl
@[simp] theorem State.timerUpdate_getV (q : Reg) : (s.timerUpdate).getV q = s.getV q := rfl
@[simp] theorem State.timerUpdate_readByte (q : Nat) : (s.timerUpdate).readByte q = s.readByte q := rfl
@[simp] theorem State.timerUpdate_turn : (s.timerUpdate).turn = s.turn := rfl

/-! Reset, and the host's operations beside the step. -/

@[simp] theorem State.resetWith_v (p : Params) : (State.resetWith p).v = Vector.replicate 16 0 := rfl
@[simp] theorem State.resetWith_pc (p : Params) : (State.resetWith p).pc = Config.resetPc := rfl
@[simp] theorem State.resetWith_i (p : Params) : (State.resetWith p).i = 0 := rfl
@[simp] theorem State.resetWith_stack (p : Params) : (State.resetWith p).stack = Vector.replicate 16 0 := rfl
@[simp] theorem State.resetWith_sp (p : Params) : (State.resetWith p).sp = 0 := rfl
@[simp] theorem State.resetWith_mem (p : Params) : (State.resetWith p).mem = [] := rfl
@[simp] theorem State.resetWith_display (p : Params) : (State.resetWith p).display = Vector.replicate 32 0 := rfl
@[simp] theorem State.resetWith_key (p : Params) : (State.resetWith p).key = Vector.replicate 16 false := rfl
@[simp] theorem State.resetWith_dt (p : Params) : (State.resetWith p).dt = 0 := rfl
@[simp] theorem State.resetWith_st (p : Params) : (State.resetWith p).st = 0 := rfl
@[simp] theorem State.resetWith_acc (p : Params) : (State.resetWith p).acc = 0 := rfl
@[simp] theorem State.resetWith_drawFlag (p : Params) : (State.resetWith p).drawFlag = false := rfl
@[simp] theorem State.resetWith_soundFlag (p : Params) : (State.resetWith p).soundFlag = false := rfl
@[simp] theorem State.resetWith_fault (p : Params) : (State.resetWith p).fault = none := rfl
@[simp] theorem State.resetWith_reports (p : Params) : (State.resetWith p).reports = [] := rfl
@[simp] theorem State.resetWith_inputs (p : Params) : (State.resetWith p).inputs = [] := rfl
@[simp] theorem State.resetWith_turnNo (p : Params) : (State.resetWith p).turnNo = 0 := rfl
@[simp] theorem State.resetWith_params (p : Params) : (State.resetWith p).params = p := rfl

@[simp] theorem State.hostReset_v : s.hostReset.v = (State.resetWith s.params).v := rfl
@[simp] theorem State.hostReset_pc : s.hostReset.pc = (State.resetWith s.params).pc := rfl
@[simp] theorem State.hostReset_i : s.hostReset.i = (State.resetWith s.params).i := rfl
@[simp] theorem State.hostReset_stack : s.hostReset.stack = (State.resetWith s.params).stack := rfl
@[simp] theorem State.hostReset_sp : s.hostReset.sp = (State.resetWith s.params).sp := rfl
@[simp] theorem State.hostReset_mem : s.hostReset.mem = (State.resetWith s.params).mem := rfl
@[simp] theorem State.hostReset_display : s.hostReset.display = (State.resetWith s.params).display := rfl
@[simp] theorem State.hostReset_key : s.hostReset.key = (State.resetWith s.params).key := rfl
@[simp] theorem State.hostReset_dt : s.hostReset.dt = (State.resetWith s.params).dt := rfl
@[simp] theorem State.hostReset_st : s.hostReset.st = (State.resetWith s.params).st := rfl
@[simp] theorem State.hostReset_acc : s.hostReset.acc = (State.resetWith s.params).acc := rfl
@[simp] theorem State.hostReset_drawFlag : s.hostReset.drawFlag = (State.resetWith s.params).drawFlag := rfl
@[simp] theorem State.hostReset_soundFlag : s.hostReset.soundFlag = (State.resetWith s.params).soundFlag := rfl
@[simp] theorem State.hostReset_fault : s.hostReset.fault = (State.resetWith s.params).fault := rfl
@[simp] theorem State.hostReset_reports : s.hostReset.reports = s.reports := rfl
@[simp] theorem State.hostReset_inputs : s.hostReset.inputs = s.inputs := rfl
@[simp] theorem State.hostReset_turnNo : s.hostReset.turnNo = s.turnNo := rfl
@[simp] theorem State.hostReset_params : s.hostReset.params = s.params := rfl

@[simp] theorem State.clearDrawFlag_v : s.clearDrawFlag.v = s.v := rfl
@[simp] theorem State.clearDrawFlag_pc : s.clearDrawFlag.pc = s.pc := rfl
@[simp] theorem State.clearDrawFlag_i : s.clearDrawFlag.i = s.i := rfl
@[simp] theorem State.clearDrawFlag_stack : s.clearDrawFlag.stack = s.stack := rfl
@[simp] theorem State.clearDrawFlag_sp : s.clearDrawFlag.sp = s.sp := rfl
@[simp] theorem State.clearDrawFlag_mem : s.clearDrawFlag.mem = s.mem := rfl
@[simp] theorem State.clearDrawFlag_display : s.clearDrawFlag.display = s.display := rfl
@[simp] theorem State.clearDrawFlag_key : s.clearDrawFlag.key = s.key := rfl
@[simp] theorem State.clearDrawFlag_dt : s.clearDrawFlag.dt = s.dt := rfl
@[simp] theorem State.clearDrawFlag_st : s.clearDrawFlag.st = s.st := rfl
@[simp] theorem State.clearDrawFlag_acc : s.clearDrawFlag.acc = s.acc := rfl
@[simp] theorem State.clearDrawFlag_drawFlag : s.clearDrawFlag.drawFlag = false := rfl
@[simp] theorem State.clearDrawFlag_soundFlag : s.clearDrawFlag.soundFlag = s.soundFlag := rfl
@[simp] theorem State.clearDrawFlag_fault : s.clearDrawFlag.fault = s.fault := rfl
@[simp] theorem State.clearDrawFlag_reports : s.clearDrawFlag.reports = s.reports := rfl
@[simp] theorem State.clearDrawFlag_inputs : s.clearDrawFlag.inputs = s.inputs := rfl
@[simp] theorem State.clearDrawFlag_turnNo : s.clearDrawFlag.turnNo = s.turnNo := rfl
@[simp] theorem State.clearDrawFlag_params : s.clearDrawFlag.params = s.params := rfl

@[simp] theorem State.withInputs_v (ts : List HostTurn) : (s.withInputs ts).v = s.v := rfl
@[simp] theorem State.withInputs_pc (ts : List HostTurn) : (s.withInputs ts).pc = s.pc := rfl
@[simp] theorem State.withInputs_i (ts : List HostTurn) : (s.withInputs ts).i = s.i := rfl
@[simp] theorem State.withInputs_stack (ts : List HostTurn) : (s.withInputs ts).stack = s.stack := rfl
@[simp] theorem State.withInputs_sp (ts : List HostTurn) : (s.withInputs ts).sp = s.sp := rfl
@[simp] theorem State.withInputs_mem (ts : List HostTurn) : (s.withInputs ts).mem = s.mem := rfl
@[simp] theorem State.withInputs_display (ts : List HostTurn) : (s.withInputs ts).display = s.display := rfl
@[simp] theorem State.withInputs_key (ts : List HostTurn) : (s.withInputs ts).key = s.key := rfl
@[simp] theorem State.withInputs_dt (ts : List HostTurn) : (s.withInputs ts).dt = s.dt := rfl
@[simp] theorem State.withInputs_st (ts : List HostTurn) : (s.withInputs ts).st = s.st := rfl
@[simp] theorem State.withInputs_acc (ts : List HostTurn) : (s.withInputs ts).acc = s.acc := rfl
@[simp] theorem State.withInputs_drawFlag (ts : List HostTurn) : (s.withInputs ts).drawFlag = s.drawFlag := rfl
@[simp] theorem State.withInputs_soundFlag (ts : List HostTurn) : (s.withInputs ts).soundFlag = s.soundFlag := rfl
@[simp] theorem State.withInputs_fault (ts : List HostTurn) : (s.withInputs ts).fault = s.fault := rfl
@[simp] theorem State.withInputs_reports (ts : List HostTurn) : (s.withInputs ts).reports = s.reports := rfl
@[simp] theorem State.withInputs_inputs (ts : List HostTurn) : (s.withInputs ts).inputs = ts := rfl
@[simp] theorem State.withInputs_turnNo (ts : List HostTurn) : (s.withInputs ts).turnNo = s.turnNo := rfl
@[simp] theorem State.withInputs_params (ts : List HostTurn) : (s.withInputs ts).params = s.params := rfl

/-- Everything a ROM load that is not refused can be: the image fits and lies from 0x200 upward (70_reset_and_hazards.md
R232). -/
theorem State.loadProgram_eq_next {s t : State} {rom : List Byte} (h : s.loadProgram rom = .next t) :
    rom.length ≤ s.params.memSize - Config.romBase ∧
      t = s.setMem (memWriteBytes s.params s.mem Config.romBase rom) := by
  unfold State.loadProgram at h
  split at h
  · cases h; exact ⟨‹_›, rfl⟩
  · cases h

/-! The default parameters. -/

theorem Params.timerPeriod_default : Params.timerPeriod {} = 1000 / 60 := by decide +kernel

/-- The defaults describe a core. -/
theorem Params.ok_default : Params.ok {} := ⟨⟨by decide, by decide⟩, by decide +kernel, by decide +kernel, by decide +kernel⟩

end Sys2Proof.Machine
end

