-- ==== Sys2Proof/Laws/Ops.lean ====
section
/-! SUPPORT. One lemma for each shared operation on registers, for the host's turn and for the end of a step: everything it can
do. -/

namespace Sys2Proof.Machine

/-! Registers. -/

theorem State.getV_setV (s : State) (r q : Reg) (b : Byte) : (s.setV r b).getV q = if q = r then b else s.getV q := by
  simp only [State.getV, State.setV_v, Vector.getElem_set, Fin.ext_iff, eq_comm]

@[simp] theorem State.getV_setV_self (s : State) (r : Reg) (b : Byte) : (s.setV r b).getV r = b := by
  simp [State.getV_setV]

theorem State.getV_setFlag (s : State) (f : Bool) (q : Reg) :
    (s.setFlag f).getV q = if q = VF then flagByte f else s.getV q := State.getV_setV ..

/-- The flag is written last: it wins over the result in `VF` (44_alu.md R126). -/
theorem State.getV_setResult (s : State) (x q : Reg) (r : Byte × Bool) :
    (s.setResult x r).getV q = if q = VF then flagByte r.2 else if q = x then r.1 else s.getV q := by
  rw [State.setResult, State.getV_setFlag, State.getV_setV]

theorem getElem_setRegsFrom (bs : List Byte) (k : Nat) (v : Vector Byte 16) (j : Nat) (hj : j < 16) :
    (setRegsFrom k bs v)[j] = if k ≤ j ∧ j < k + bs.length then bs.getD (j - k) 0 else v[j] := by
  induction bs generalizing k v with
  | nil => simp only [setRegsFrom, List.length_nil]; rw [if_neg (by omega)]
  | cons b bs ih =>
    simp only [setRegsFrom, List.length_cons]
    rw [ih]
    by_cases h1 : k + 1 ≤ j ∧ j < k + 1 + bs.length
    · rw [if_pos h1, if_pos (by omega), show j - k = j - (k + 1) + 1 by omega]; simp
    · rw [if_neg h1, Vector.getElem_setIfInBounds]
      by_cases h2 : k = j
      · subst h2; rw [if_pos rfl, if_pos (by omega)]; simp
      · rw [if_neg h2, if_neg (by omega)]

/-- `V[0]`, `V[1]`, ... take the bytes, the registers above them keep their values (49_memory_transfer.md R178). -/
theorem State.getV_setRegs (s : State) (bs : List Byte) (q : Reg) :
    (s.setRegs bs).getV q = if q.val < bs.length then bs.getD q.val 0 else s.getV q := by
  simp only [State.getV, State.setRegs_v]
  rw [getElem_setRegsFrom]; simp

/-! Memory through `I`. -/

theorem State.readByte_writeAtI (s : State) (bs : List Byte) (a : Nat) (h : s.i.toNat + bs.length ≤ s.params.memSize) :
    (s.writeAtI bs).readByte a =
      if s.i.toNat ≤ a ∧ a < s.i.toNat + bs.length then bs.getD (a - s.i.toNat) 0 else s.readByte a :=
  memRead_memWriteBytes _ _ _ _ _ h

@[simp] theorem State.length_readAtI (s : State) (n : Nat) : (s.readAtI n).length = n := length_memReadBytes ..

/-- An access of `n` bytes at `I` fits exactly when it is empty or ends below `M` (20_memory.md R51). -/
theorem State.fits_iff (s : State) (n : Nat) : s.fits n = true ↔ n = 0 ∨ s.i.toNat + (n - 1) < s.params.memSize := by
  simp only [State.fits, State.lastAddress, Bool.or_eq_true, beq_iff_eq, inMemory_iff]

/-- `I` advanced is reduced modulo 65536 (10_state.md R24). -/
theorem State.toNat_bumpI (s : State) (n : Nat) : (s.bumpI n).i.toNat = (s.i.toNat + n) % 65536 := by
  simp [BitVec.toNat_add]

/-! The fetch. -/

theorem State.fetch_eq_some (s : State) (op : Word16) :
    s.fetch = some op ↔ s.pc.toNat + 1 < s.params.memSize ∧
      op = wordOf (s.readByte s.pc.toNat) (s.readByte (s.pc.toNat + 1)) := by
  simp [State.fetch, inMemory, eq_comm]

theorem State.fetch_eq_none (s : State) : s.fetch = none ↔ s.params.memSize ≤ s.pc.toNat + 1 := by
  simp [State.fetch, inMemory]

/-! The timers. -/

theorem accPlus_nonneg {p : Params} (hp : p.ok) {acc : Millis} (delta : Elapsed) (h : 0 ≤ acc) : 0 ≤ accPlus p acc delta :=
  add_nonneg h (le_min delta.nonneg hp.2.2.1)

/-- The ticks of a step are the whole periods of the accumulated time (60_exceptions.md R213). -/
theorem tickCount_periods {p : Params} (hp : p.ok) {acc : Millis} (delta : Elapsed) (h : 0 ≤ acc) :
    (tickCount p acc delta : ℚ) ≤ accPlus p acc delta / p.timerPeriod ∧
      accPlus p acc delta / p.timerPeriod < tickCount p acc delta + 1 := by
  have hf : 0 ≤ (accPlus p acc delta / p.timerPeriod).floor :=
    Rat.le_floor_iff.2 (by simpa using div_nonneg (accPlus_nonneg hp delta h) hp.2.1.le)
  have hk : (tickCount p acc delta : ℚ) = ((accPlus p acc delta / p.timerPeriod).floor : ℚ) := by
    exact_mod_cast Int.toNat_of_nonneg hf
  rw [hk]
  exact ⟨Rat.floor_le _, by simpa using Rat.lt_floor_add_one _⟩

/-! The end of a step, and the step. -/

/-- The end of a step is the timer update with the turn used up, or nothing where the step took a fault
(40_instruction_cycle.md R95). -/
theorem State.endStep_of_running {s : State} (h : s.fault = none) : s.endStep = s.timerUpdate.nextTurn := by
  simp [State.endStep, h]

theorem State.endStep_of_fault {s : State} {r : FaultRecord} (h : s.fault = some r) : s.endStep = s := by
  simp [State.endStep, h]

@[simp] theorem State.endStep_fault (s : State) : s.endStep.fault = s.fault := by
  unfold State.endStep; split <;> simp [*]

/-- Everything a step that answers a next state can be: the core was running, and the fetch left memory, or the word was
unmatched, or its instruction ran. -/
theorem step_eq_next {s t : State} (h : step s = .next t) :
    s.fault = none ∧
      ((s.hostMoves.fetch = none ∧ t = s.hostMoves.raise (.fetchOutOfBounds s.pc)) ∨
        (∃ op, s.hostMoves.fetch = some op ∧ decode op = none ∧ t = (s.hostMoves.unmatched op).endStep) ∨
        (∃ op i u, s.hostMoves.fetch = some op ∧ decode op = some i ∧ exec i s.hostMoves = .next u ∧ t = u.endStep)) := by
  unfold step at h
  split at h
  · cases h
  · refine ⟨‹_›, ?_⟩
    unfold coreStep at h
    split at h
    · cases h; exact .inl ⟨‹_›, rfl⟩
    · next op hop =>
      split at h
      · next hd => cases h; exact .inr (.inl ⟨op, hop, hd, rfl⟩)
      · next i hd =>
        cases hu : exec i s.hostMoves with
        | next u => rw [hu] at h; cases h; exact .inr (.inr ⟨op, i, u, hop, hd, hu, rfl⟩)
        | fault r => rw [hu] at h; cases h
        | refused r => rw [hu] at h; cases h

end Sys2Proof.Machine
end

