-- ==== Sys2Proof/Laws/Display.lean ====
section
/-! SUPPORT. What drawing does to each pixel and to the collision flag (spec/46_display.md R152): one lemma each for the XOR of a
pixel, a plotted bit, a sprite byte and a sprite. -/

namespace Sys2Proof.Machine

theorem pixel_of_row_out (d : Display) (x y : Nat) (h : ¬ y < 32) : pixel d x y = false := by simp [pixel, h]

theorem pixel_of_col_out (d : Display) (x y : Nat) (h : ¬ x < 64) : pixel d x y = false := by
  unfold pixel; split
  · simp [BitVec.getMsbD]; omega
  · rfl

/-- The bit of the mask of one pixel. -/
theorem getMsbD_pixelMask (x px : Nat) (bit : Bool) (hx : x < 64) (hpx : px < 64) :
    ((BitVec.ofBool bit).setWidth 64 <<< (63 - x)).getMsbD px = (bit && decide (px = x)) := by
  cases bit
  · simp
  · simp only [BitVec.getMsbD, hpx, decide_true, Bool.true_and, BitVec.getLsbD_shiftLeft]
    by_cases h : px = x
    · subst h; simp; omega
    · have : 64 - 1 - px < 63 - x ∨ 64 - 1 - px - (63 - x) ≠ 0 := by omega
      rcases this with h1 | h1
      · simp [h, h1]
      · simp [h, h1]

/-- The XOR flips its pixel where the bit is 1 and no other pixel. -/
theorem pixel_xorPixel (d : Display) (x y px py : Nat) (bit : Bool) (hx : x < 64) (hy : y < 32) :
    pixel (xorPixel d x y bit) px py = (pixel d px py ^^ (bit && decide (px = x ∧ py = y))) := by
  by_cases hpy : py < 32
  · by_cases hpx : px < 64
    · simp only [pixel, xorPixel, hpy, hy, dif_pos, Vector.getElem_set]
      by_cases h : y = py
      · subst h
        simp only [if_true, BitVec.getMsbD_xor, getMsbD_pixelMask _ _ _ hx hpx, and_true]
      · simp [h, show ¬ py = y from fun e => h e.symm]
    · rw [pixel_of_col_out _ _ _ hpx, pixel_of_col_out _ _ _ hpx]
      simp; omega
  · rw [pixel_of_row_out _ _ _ hpy, pixel_of_row_out _ _ _ hpy]
    simp; omega

/-- A pixel lies on the grid. -/
def onGrid (x y : Nat) : Bool := decide (x < 64 ∧ y < 32)

/-- A plotted bit: its pixel is flipped where the bit is 1 and the pixel is on the grid. -/
theorem pixel_plot (x y px py : Nat) (bit : Bool) (c : Canvas) :
    pixel (plot x y bit c).display px py =
      (pixel c.display px py ^^ (bit && onGrid x y && decide (px = x ∧ py = y))) := by
  unfold plot onGrid
  split
  · next h => simp [pixel_xorPixel _ _ _ _ _ _ h.1 h.2, h]
  · next h => simp only [decide_eq_false h]; simp

/-- A plotted bit collides where it is 1, on the grid, and its pixel is 1. -/
theorem hit_plot (x y : Nat) (bit : Bool) (c : Canvas) :
    (plot x y bit c).hit = (c.hit || (bit && onGrid x y && pixel c.display x y)) := by
  unfold plot onGrid
  split
  · next h => simp [h]
  · next h => simp only [decide_eq_false h]; simp

/-- The first `k` bits of a sprite byte. -/
theorem fold_plot (x0 y : Nat) (b : Byte) (c : Canvas) (k : Nat) :
    (∀ px py, pixel ((List.range k).foldl (fun c j => plot (x0 + j) y (b.getLsbD (7 - j)) c) c).display px py =
      (pixel c.display px py ^^
        (decide (x0 ≤ px ∧ px < x0 + k ∧ py = y) && onGrid px py && b.getLsbD (7 - (px - x0))))) ∧
    (((List.range k).foldl (fun c j => plot (x0 + j) y (b.getLsbD (7 - j)) c) c).hit = true ↔
      (c.hit = true ∨ ∃ j, j < k ∧ onGrid (x0 + j) y = true ∧ b.getLsbD (7 - j) = true ∧ pixel c.display (x0 + j) y = true)) := by
  induction k with
  | zero =>
    refine ⟨fun px py => ?_, by simp⟩
    rw [decide_eq_false (by omega)]
    simp
  | succ k ih =>
    obtain ⟨ihp, ihh⟩ := ih
    rw [List.range_succ, List.foldl_append]
    constructor
    · intro px py
      simp only [List.foldl_cons, List.foldl_nil, pixel_plot, ihp]
      by_cases h : px = x0 + k ∧ py = y
      · obtain ⟨rfl, rfl⟩ := h
        simp [Bool.and_comm]
      · have e : decide (x0 ≤ px ∧ px < x0 + (k + 1) ∧ py = y) = decide (x0 ≤ px ∧ px < x0 + k ∧ py = y) := by
          apply decide_eq_decide.2; omega
        simp [h, e]
    · have hk : pixel ((List.range k).foldl (fun c j => plot (x0 + j) y (b.getLsbD (7 - j)) c) c).display (x0 + k) y
          = pixel c.display (x0 + k) y := by
        rw [ihp, decide_eq_false (by omega)]; simp
      simp only [List.foldl_cons, List.foldl_nil, hit_plot, Bool.or_eq_true, ihh, hk, Bool.and_eq_true]
      constructor
      · rintro ((h | ⟨j, hj, h⟩) | ⟨⟨h1, h2⟩, h3⟩)
        · exact .inl h
        · exact .inr ⟨j, by omega, h⟩
        · exact .inr ⟨k, by omega, h2, h1, h3⟩
      · rintro (h | ⟨j, hj, h⟩)
        · exact .inl (.inl h)
        · by_cases e : j = k
          · subst e; exact .inr ⟨⟨h.2.1, h.1⟩, h.2.2⟩
          · exact .inl (.inr ⟨j, by omega, h⟩)

/-- A sprite byte: each of its bits on the grid flips its pixel. -/
theorem pixel_drawByte (x0 y px py : Nat) (b : Byte) (c : Canvas) :
    pixel (drawByte x0 y b c).display px py =
      (pixel c.display px py ^^
        (decide (x0 ≤ px ∧ px < x0 + 8 ∧ py = y) && onGrid px py && b.getLsbD (7 - (px - x0)))) :=
  (fold_plot x0 y b c 8).1 px py

/-- A sprite byte collides where one of its bits is 1, on the grid, and its pixel is 1. -/
theorem hit_drawByte (x0 y : Nat) (b : Byte) (c : Canvas) :
    (drawByte x0 y b c).hit = true ↔
      (c.hit = true ∨ ∃ px, (x0 ≤ px ∧ px < x0 + 8) ∧ onGrid px y = true ∧ b.getLsbD (7 - (px - x0)) = true ∧
        pixel c.display px y = true) := by
  unfold drawByte
  rw [(fold_plot x0 y b c 8).2]
  refine or_congr_right ⟨?_, ?_⟩
  · rintro ⟨j, hj, h⟩; exact ⟨x0 + j, by omega, by simpa using h⟩
  · rintro ⟨px, hp, h⟩
    obtain ⟨j, rfl⟩ := Nat.exists_eq_add_of_le hp.1
    exact ⟨j, by omega, by simpa using h⟩

/-- The bit of a sprite whose first byte is at row `y`, at column `px` and row `py`. -/
def spriteHas (x0 y : Nat) (bs : List Byte) (px py : Nat) : Bool :=
  decide (x0 ≤ px ∧ px < x0 + 8 ∧ y ≤ py ∧ py < y + bs.length) && (bs.getD (py - y) 0).getLsbD (7 - (px - x0))

theorem spriteHas_nil (x0 y px py : Nat) : spriteHas x0 y [] px py = false := by
  unfold spriteHas; rw [decide_eq_false (by simp only [List.length_nil]; omega)]; rfl

theorem spriteHas_above (x0 y : Nat) (bs : List Byte) (px py : Nat) (h : py < y) : spriteHas x0 y bs px py = false := by
  unfold spriteHas; rw [decide_eq_false (by omega)]; rfl

theorem spriteHas_cons (x0 y : Nat) (b : Byte) (bs : List Byte) (px py : Nat) :
    spriteHas x0 y (b :: bs) px py =
      (if py = y then decide (x0 ≤ px ∧ px < x0 + 8) && b.getLsbD (7 - (px - x0)) else spriteHas x0 (y + 1) bs px py) := by
  unfold spriteHas
  split
  · next h =>
    subst h
    rw [show decide (x0 ≤ px ∧ px < x0 + 8 ∧ py ≤ py ∧ py < py + (b :: bs).length) = decide (x0 ≤ px ∧ px < x0 + 8) by
      apply decide_eq_decide.2; simp]
    simp
  · next h =>
    by_cases hy : y < py
    · rw [show py - y = py - (y + 1) + 1 by omega]
      rw [show decide (x0 ≤ px ∧ px < x0 + 8 ∧ y ≤ py ∧ py < y + (b :: bs).length) =
        decide (x0 ≤ px ∧ px < x0 + 8 ∧ y + 1 ≤ py ∧ py < y + 1 + bs.length) by
        apply decide_eq_decide.2; simp; omega]
      simp
    · rw [decide_eq_false (by omega), decide_eq_false (by omega)]; rfl

/-- A sprite: the display is the old one with every bit of the clipped sprite flipped (46_display.md R153 (d)). -/
theorem pixel_drawSprite (x0 y px py : Nat) (bs : List Byte) (c : Canvas) :
    pixel (drawSprite x0 y bs c).display px py = (pixel c.display px py ^^ (onGrid px py && spriteHas x0 y bs px py)) := by
  induction bs generalizing y c with
  | nil => simp [drawSprite, spriteHas_nil]
  | cons b bs ih =>
    rw [drawSprite, ih, pixel_drawByte, spriteHas_cons]
    by_cases h : py = y
    · subst h
      rw [spriteHas_above _ _ _ _ _ (by omega), if_pos rfl]
      simp only [and_true, Bool.and_false, Bool.xor_false]
      rw [Bool.and_assoc, Bool.and_left_comm]
    · simp [h]

/-- A sprite collides where one of its bits lies on a pixel of the grid that was 1 (46_display.md R153 (d)). -/
theorem hit_drawSprite (x0 y : Nat) (bs : List Byte) (c : Canvas) :
    (drawSprite x0 y bs c).hit = true ↔
      (c.hit = true ∨ ∃ px py, onGrid px py = true ∧ spriteHas x0 y bs px py = true ∧ pixel c.display px py = true) := by
  induction bs generalizing y c with
  | nil => simp [drawSprite, spriteHas_nil]
  | cons b bs ih =>
    rw [drawSprite, ih, hit_drawByte, or_assoc]
    refine or_congr_right ⟨?_, ?_⟩
    · rintro (⟨px, hp, hg, hb, hc⟩ | ⟨px, py, hg, hs, hc⟩)
      · exact ⟨px, y, hg, by rw [spriteHas_cons]; simp [hp, hb], hc⟩
      · have hy : y < py := by
          by_contra hy; rw [spriteHas_above _ _ _ _ _ (by omega)] at hs; cases hs
        refine ⟨px, py, hg, by rw [spriteHas_cons, if_neg (by omega)]; exact hs, ?_⟩
        rw [pixel_drawByte, decide_eq_false (by omega)] at hc
        simpa using hc
    · rintro ⟨px, py, hg, hs, hc⟩
      rw [spriteHas_cons] at hs
      by_cases h : py = y
      · subst h
        rw [if_pos rfl] at hs
        simp only [Bool.and_eq_true, decide_eq_true_eq] at hs
        exact .inl ⟨px, hs.1, hg, hs.2, hc⟩
      · rw [if_neg h] at hs
        refine .inr ⟨px, py, hg, hs, ?_⟩
        rw [pixel_drawByte, decide_eq_false (by omega)]
        simpa using hc

end Sys2Proof.Machine
end

