-- ==== Sys2Proof/Laws/Exec.lean ====
section
/-! SUPPORT. What each branching meaning answers on each side of its test, so that a proof rewrites with the answer and unfolds no
meaning; and that every meaning answers a next state. -/

namespace Sys2Proof.Machine

/-- Every instruction answers a next state, in every state: a fault is taken, never a stop. -/
theorem exec_answers_next (i : Instr) (s : State) : ∃ t, exec i s = .next t := by
  cases i <;> exact ⟨_, rfl⟩

theorem exec_ret_of_pos {s : State} (h : 0 < s.sp.val) : exec .ret s = .next (s.popPc h) := by
  simp only [exec, execRet, dif_pos h]

theorem exec_ret_of_empty {s : State} (h : s.sp.val = 0) : exec .ret s = .next (s.raise (.stackUnderflow s.pc)) := by
  simp only [exec, execRet, dif_neg (show ¬ 0 < s.sp.val by omega)]

theorem exec_call_of_room {s : State} (nnn : Word16) (h : s.sp.val < 16) :
    exec (.call nnn) s = .next ((s.push (s.pc + 2) h).setPc nnn) := by
  simp only [exec, execCall, dif_pos h]

theorem exec_call_of_full {s : State} (nnn : Word16) (h : s.sp.val = 16) :
    exec (.call nnn) s = .next (s.raise (.stackOverflow s.pc)) := by
  simp only [exec, execCall, dif_neg (show ¬ s.sp.val < 16 by omega)]

theorem exec_drw_of_fits {s : State} (x y : Reg) {n : Nat} (h : s.fits n = true) :
    exec (.drw x y n) s =
      .next (((s.advance.setFlag (s.drawn x y n).hit).setDisplay (s.drawn x y n).display).setDrawFlag true) := by
  simp only [exec, execDrw, h, if_true]

theorem exec_drw_of_not_fits {s : State} (x y : Reg) {n : Nat} (h : s.fits n = false) :
    exec (.drw x y n) s = .next (s.raise (s.memoryFault n)) := by
  simp only [exec, execDrw, h, Bool.false_eq_true, if_false]

theorem exec_skp_of_key {s : State} {x : Reg} (h : (s.getV x).toNat < 16) :
    exec (.skp x) s = .next (s.advance.skipIf (s.keyDown (s.getV x).toNat)) := by
  simp only [exec, execSkp, if_neg (show ¬ (s.getV x).toNat > 15 by omega)]

theorem exec_skp_of_no_key {s : State} {x : Reg} (h : 15 < (s.getV x).toNat) :
    exec (.skp x) s = .next (s.raise (.keyIndexOutOfRange s.pc (s.getV x))) := by
  simp only [exec, execSkp, if_pos (show (s.getV x).toNat > 15 by omega)]

theorem exec_sknp_of_key {s : State} {x : Reg} (h : (s.getV x).toNat < 16) :
    exec (.sknp x) s = .next (s.advance.skipIf (!s.keyDown (s.getV x).toNat)) := by
  simp only [exec, execSknp, if_neg (show ¬ (s.getV x).toNat > 15 by omega)]

theorem exec_sknp_of_no_key {s : State} {x : Reg} (h : 15 < (s.getV x).toNat) :
    exec (.sknp x) s = .next (s.raise (.keyIndexOutOfRange s.pc (s.getV x))) := by
  simp only [exec, execSknp, if_pos (show (s.getV x).toNat > 15 by omega)]

theorem exec_waitKey_of_key {s : State} (x : Reg) {k : Nat} (h : s.lowestKey = some k) :
    exec (.waitKey x) s = .next (s.advance.setV x (BitVec.ofNat 8 k)) := by
  simp only [exec, execWaitKey, h]

theorem exec_waitKey_of_no_key {s : State} (x : Reg) (h : s.lowestKey = none) :
    exec (.waitKey x) s = .next (s.advance.setPc (s.advance.pc - 2)) := by
  simp only [exec, execWaitKey, h]

theorem exec_storeBcd_of_fits {s : State} (x : Reg) (h : s.fits 3 = true) :
    exec (.storeBcd x) s = .next (s.advance.writeAtI (bcdDigits (s.getV x))) := by
  simp only [exec, execStoreBcd, h, if_true]

theorem exec_storeBcd_of_not_fits {s : State} (x : Reg) (h : s.fits 3 = false) :
    exec (.storeBcd x) s = .next (s.raise (s.memoryFault 3)) := by
  simp only [exec, execStoreBcd, h, Bool.false_eq_true, if_false]

theorem exec_storeRegs_of_fits {s : State} {x : Reg} (h : s.fits (x.val + 1) = true) :
    exec (.storeRegs x) s = .next ((s.advance.writeAtI (s.v.toList.take (x.val + 1))).bumpI (x.val + 1)) := by
  simp only [exec, execStoreRegs, h, if_true]

theorem exec_storeRegs_of_not_fits {s : State} {x : Reg} (h : s.fits (x.val + 1) = false) :
    exec (.storeRegs x) s = .next (s.raise (s.memoryFault (x.val + 1))) := by
  simp only [exec, execStoreRegs, h, Bool.false_eq_true, if_false]

theorem exec_loadRegs_of_fits {s : State} {x : Reg} (h : s.fits (x.val + 1) = true) :
    exec (.loadRegs x) s = .next ((s.advance.setRegs (s.readAtI (x.val + 1))).bumpI (x.val + 1)) := by
  simp only [exec, execLoadRegs, h, if_true]

theorem exec_loadRegs_of_not_fits {s : State} {x : Reg} (h : s.fits (x.val + 1) = false) :
    exec (.loadRegs x) s = .next (s.raise (s.memoryFault (x.val + 1))) := by
  simp only [exec, execLoadRegs, h, Bool.false_eq_true, if_false]

/-- The least pressed key (47_keys.md R162). -/
theorem State.lowestKey_eq_some (s : State) (k : Nat) :
    s.lowestKey = some k ↔ s.keyDown k = true ∧ ∀ j, j < k → s.keyDown j = false := by
  unfold State.lowestKey
  rw [List.find?_range_eq_some]
  constructor
  · rintro ⟨h1, -, h2⟩; exact ⟨h1, fun j hj => by simpa using h2 j hj⟩
  · rintro ⟨h1, h2⟩
    refine ⟨h1, ?_, fun j hj => by simpa using h2 j hj⟩
    by_contra hc
    simp [State.keyDown, show ¬ k < 16 by simpa using hc] at h1

theorem State.lowestKey_eq_none (s : State) : s.lowestKey = none ↔ ∀ k, s.keyDown k = false := by
  unfold State.lowestKey
  rw [List.find?_range_eq_none]
  constructor
  · intro h k
    by_cases hk : k < 16
    · simpa using h k hk
    · simp [State.keyDown, hk]
  · intro h k _; simp [h k]

end Sys2Proof.Machine
end

