-- ==== Sys2Proof/Tests/Slice0.lean ====
section
/-! SUPPORT. The model's own tests: ill-formed terms, words written out bit by bit, one step each. Every expected value is taken
from spec/95_test_vectors.md (V1 to V12) or from the worked example of the rule named. -/

namespace Sys2Proof.Tests

open Sys2Proof.Machine

/-! ## Well-formedness: one ill-formed term for each check -/

/-- `NNN` has 12 bits (30_encoding.md R71). -/
theorem test_wellFormed_refuses_nnn : wellFormed (.jp 0x1000) = false ∧ wellFormed (.call 0xFFFF) = false ∧
    wellFormed (.ldI 0x1000) = false ∧ wellFormed (.jpV0 0x8000) = false := by decide

/-- `N` has 4 bits (30_encoding.md R71). -/
theorem test_wellFormed_refuses_n : wellFormed (.drw 0 0 16) = false := by decide

/-! ## Decoding: every constructor's word, written from the patterns of 30_encoding.md R75 -/

theorem test_decode_fixed : decode 0b0000000011100000 = some .cls ∧ decode 0b0000000011101110 = some .ret := by decide

theorem test_decode_nnn : decode 0b0001101010111100 = some (.jp 0xABC) ∧ decode 0b0010001100000000 = some (.call 0x300) ∧
    decode 0b1010000100100011 = some (.ldI 0x123) ∧ decode 0b1011111111111111 = some (.jpV0 0xFFF) := by decide

theorem test_decode_xnn : decode 0b0011000101000010 = some (.seImm 1 0x42) ∧ decode 0b0100001000000110 = some (.sneImm 2 6) ∧
    decode 0b0110101001111111 = some (.ldImm 10 0x7F) ∧ decode 0b0111101011111111 = some (.addImm 10 0xFF) ∧
    decode 0b1100111100111100 = some (.rnd 15 0x3C) := by decide

theorem test_decode_xy : decode 0b0101000100100000 = some (.seReg 1 2) ∧ decode 0b1001000100100000 = some (.sneReg 1 2) ∧
    decode 0b1000111100100000 = some (.ldReg 15 2) ∧ decode 0b1000000100100001 = some (.or 1 2) ∧
    decode 0b1000000100100010 = some (.and 1 2) ∧ decode 0b1000000100100011 = some (.xor 1 2) := by decide

theorem test_decode_arithmetic : decode 0b1000101010110100 = some (.addReg 10 11) ∧
    decode 0b1000000100100101 = some (.sub 1 2) ∧ decode 0b1000000100100110 = some (.shr 1 2) ∧
    decode 0b1000000100100111 = some (.subn 1 2) ∧ decode 0b1000000100101110 = some (.shl 1 2) := by decide

theorem test_decode_xyn : decode 0b1101111100010001 = some (.drw 15 1 1) ∧ decode 0b1101000000010000 = some (.drw 0 1 0) := by
  decide

theorem test_decode_keys : decode 0b1110010110011110 = some (.skp 5) ∧ decode 0b1110010110100001 = some (.sknp 5) ∧
    decode 0b1111001000001010 = some (.waitKey 2) := by decide

theorem test_decode_timers : decode 0b1111001100000111 = some (.ldDelay 3) ∧ decode 0b1111001100010101 = some (.setDelay 3) ∧
    decode 0b1111001100011000 = some (.setSound 3) := by decide

theorem test_decode_index : decode 0b1111000100011110 = some (.addI 1) ∧ decode 0b1111000100101001 = some (.ldFont 1) := by decide

theorem test_decode_memory : decode 0b1111000100110011 = some (.storeBcd 1) ∧ decode 0b1111001001010101 = some (.storeRegs 2) ∧
    decode 0b1111001001100101 = some (.loadRegs 2) := by decide

/-- V10: unmatched words. -/
theorem test_decode_unmatched : decode 0x0000 = none ∧ decode 0x00E1 = none ∧ decode 0x5001 = none ∧ decode 0x8128 = none ∧
    decode 0x9001 = none ∧ decode 0xE19F = none ∧ decode 0xF175 = none := by decide

/-- The bytes are taken high byte first, the rest is left (20_memory.md R52, its example). -/
theorem test_decodeBytes : decodeBytes [0x8A, 0xB4, 0x11] = .instr (.addReg 10 11) [0x11] ∧ decodeBytes [0x8A] = .truncated ∧
    decodeBytes [0x50, 0x01] = .unmatched 0x5001 [] := by decide

theorem test_decodeTableWord : decodeTableWord 16 0x8AB4 = some (.addReg 10 11) ∧ decodeTableWord 16 0x5001 = none := by decide

/-! ## One step each -/

/-- `s` with the word at `PC` and one quiet host turn. -/
def ready (w : Nat) (s : State) : State := (s.withFetchWord 16 w).withInputs [HostTurn.quiet]

/-- The state one step later, or `s` where there is no step. -/
def after (w : Nat) (s : State) : State := (ready w s).afterRequest

/-- Reset with the two registers set. -/
def regs (x : Reg) (a : Byte) (y : Reg) (b : Byte) : State := (State.reset.setV x a).setV y b

/-- Reset with `I` and a byte at 0x300. -/
def sprite (b : Byte) : State := (State.reset.setMem (memWrite {} [] 0x300 b)).setI 0x300

/-- Reset with the keys of the list down. -/
def keys (ks : List Nat) : State :=
  State.reset.writeKeys (ks.foldl (fun v k => v.setIfInBounds k true) (Vector.replicate 16 false))

/-! V1 -/

theorem test_jp : (after 0x1ABC State.reset).pc = 0xABC := by decide
theorem test_call : (after 0x2300 State.reset).pc = 0x300 ∧ (after 0x2300 State.reset).sp = 1 ∧
    (after 0x2300 State.reset).stack[0] = 0x202 := by decide
theorem test_call_full : (after 0x2300 { State.reset with sp := 16 }).fault = some (.stackOverflow 0x200) := by decide
theorem test_ret : (after 0x00EE ((State.reset.push 0x2A4 (by decide)).setPc 0x300)).pc = 0x2A4 := by decide
theorem test_ret_empty : (after 0x00EE State.reset).fault = some (.stackUnderflow 0x200) ∧
    (after 0x00EE State.reset).pc = 0x200 := by decide
theorem test_jpV0 : (after 0xBFFF (State.reset.setV 0 0xFF)).pc = 0x10FE := by decide
theorem test_jpV0_not_vx : (after 0xB300 (State.reset.setV 3 0x44)).pc = 0x300 := by decide

/-! V2 -/

theorem test_seImm : (after 0x3142 (State.reset.setV 1 0x42)).pc = 0x204 ∧
    (after 0x3142 (State.reset.setV 1 0x41)).pc = 0x202 := by decide
theorem test_sneImm : (after 0x4142 (State.reset.setV 1 0x42)).pc = 0x202 ∧
    (after 0x4142 (State.reset.setV 1 0x41)).pc = 0x204 := by decide
theorem test_seReg : (after 0x5120 (regs 1 7 2 7)).pc = 0x204 ∧ (after 0x5120 (regs 1 7 2 8)).pc = 0x202 := by decide
theorem test_sneReg : (after 0x9120 (regs 1 7 2 7)).pc = 0x202 ∧ (after 0x9120 (regs 1 7 2 8)).pc = 0x204 := by decide

/-! V3 -/

theorem test_ldImm : (after 0x6A7F State.reset).getV 10 = 0x7F := by decide
theorem test_addImm_wraps : (after 0x7102 (regs 1 0xFF VF 1)).getV 1 = 1 ∧ (after 0x7102 (regs 1 0xFF VF 1)).getV VF = 1 := by
  decide

/-! V4 -/

theorem test_ldReg : (after 0x8120 (regs 2 0xAB VF 1)).getV 1 = 0xAB ∧ (after 0x8120 (regs 2 0xAB VF 1)).getV VF = 1 := by decide
theorem test_or : (after 0x8121 (regs 1 0x0F 2 0xF0)).getV 1 = 0xFF := by decide
theorem test_or_vf : (after 0x8F11 (regs 1 0x55 VF 0xAA)).getV VF = 0 := by decide
theorem test_and : (after 0x81F2 (regs 1 0x0F VF 0x3C)).getV 1 = 0x0C := by decide
theorem test_xor : (after 0x8123 (regs 1 0xFF 2 0x0F)).getV 1 = 0xF0 := by decide
theorem test_addReg : (after 0x8124 (regs 1 0xFF 2 1)).getV 1 = 0 ∧ (after 0x8124 (regs 1 0xFF 2 1)).getV VF = 1 := by decide
theorem test_addReg_vf : (after 0x8F14 (regs 1 1 VF 0xFF)).getV VF = 1 := by decide
theorem test_sub_borrow : (after 0x8125 (regs 1 3 2 5)).getV 1 = 0xFE ∧ (after 0x8125 (regs 1 3 2 5)).getV VF = 0 := by decide
theorem test_sub_vf : (after 0x81F5 (regs 1 5 VF 9)).getV 1 = 0xFC ∧ (after 0x81F5 (regs 1 5 VF 9)).getV VF = 0 := by decide
theorem test_subn : (after 0x8127 (regs 1 3 2 5)).getV 1 = 2 ∧ (after 0x8127 (regs 1 3 2 5)).getV VF = 1 := by decide
theorem test_subn_vf : (after 0x81F7 (regs 1 9 VF 2)).getV 1 = 0xF9 ∧ (after 0x81F7 (regs 1 9 VF 2)).getV VF = 0 := by decide
theorem test_shr : (after 0x8126 (regs 1 0xEE 2 3)).getV 1 = 1 ∧ (after 0x8126 (regs 1 0xEE 2 3)).getV VF = 1 := by decide
theorem test_shl : (after 0x812E (regs 1 0xEE 2 0x81)).getV 1 = 2 ∧ (after 0x812E (regs 1 0xEE 2 0x81)).getV VF = 1 := by decide

/-! V5 -/

theorem test_ldI : (after 0xA123 (State.reset.setI 0xFFFF)).i = 0x123 := by decide
theorem test_rnd : (((State.reset.withFetchWord 16 0xC10F).withInputs
    [{ HostTurn.quiet with rnd := 0xA7 }]).afterRequest).getV 1 = 7 := by decide
theorem test_addI_unmasked : (after 0xF11E ((State.reset.setV 1 1).setI 0xFFF)).i = 0x1000 := by decide
theorem test_addI_wraps : (after 0xF11E ((State.reset.setV 1 2).setI 0xFFFF)).i = 1 := by decide
theorem test_ldFont : (after 0xF129 (State.reset.setV 1 0xA)).i = 0x32 := by decide
theorem test_ldFont_unmasked : (after 0xF129 (State.reset.setV 1 0x1A)).i = 0x82 := by decide

/-! V6 -/

theorem test_cls : (after 0x00E0 (State.reset.setDisplay (xorPixel State.reset.display 5 7 true))).display = blankDisplay := by
  decide
theorem test_drw_left_bit : (after 0xD011 (((sprite 0x80).setV 0 0x0A).setV 1 4)).display =
    xorPixel State.reset.display 10 4 true := by decide
theorem test_drw_clips : (after 0xD011 ((sprite 0x0F).setV 0 0x3C)).display = State.reset.display ∧
    (after 0xD011 ((sprite 0x0F).setV 0 0x3C)).drawFlag = true := by decide

/-! V7 -/

theorem test_skp : (after 0xE19E ((keys [5]).setV 1 5)).pc = 0x204 ∧ (after 0xE19E ((keys [4]).setV 1 5)).pc = 0x202 := by decide
theorem test_skp_index : (after 0xE19E ((keys [0]).setV 1 0x10)).fault = some (.keyIndexOutOfRange 0x200 0x10) := by decide
theorem test_sknp : (after 0xE1A1 ((keys [5]).setV 1 5)).pc = 0x202 ∧ (after 0xE1A1 ((keys [4]).setV 1 5)).pc = 0x204 := by decide
theorem test_waitKey : (after 0xF20A (keys [3, 7])).getV 2 = 3 ∧ (after 0xF20A (keys [3, 7])).pc = 0x202 := by decide
theorem test_waitKey_none : (after 0xF20A (State.reset.setV 2 0x77)).pc = 0x200 ∧
    (after 0xF20A (State.reset.setV 2 0x77)).getV 2 = 0x77 := by decide

/-! V8: a step of `delta` 50/3 ms is one tick; the kernel computes the rationals -/

/-- One step in which one period passes. -/
def afterTick (w : Nat) (s : State) : State :=
  ((s.withFetchWord 16 w).withInputs [{ HostTurn.quiet with delta := { ms := 50 / 3, nonneg := by norm_num } }]).afterRequest

theorem test_ldDelay : (afterTick 0xF307 (State.reset.setDt 42)).getV 3 = 0x2A ∧
    (afterTick 0xF307 (State.reset.setDt 42)).dt = 41 := by decide +kernel
theorem test_setDelay : (after 0xF315 (State.reset.setV 3 5)).dt = 5 := by decide +kernel
theorem test_setDelay_then_tick : (afterTick 0xF315 (State.reset.setV 3 5)).dt = 4 := by decide +kernel
theorem test_setSound : (after 0xF318 (State.reset.setV 3 0xFF)).st = 255 := by decide +kernel

/-- V12: 250 ms are clamped to 100, six periods exactly, remainder 0; 99 ms are five ticks, remainder 47/3. -/
theorem test_tickCount : tickCount {} 0 { ms := 250, nonneg := by norm_num } = 6 ∧
    accAfter {} 0 { ms := 250, nonneg := by norm_num } = 0 ∧ tickCount {} 0 { ms := 99, nonneg := by norm_num } = 5 ∧
    accAfter {} 0 { ms := 99, nonneg := by norm_num } = 47 / 3 := by decide +kernel

/-! V9 -/

theorem test_storeBcd : (after 0xF133 ((State.reset.setV 1 254).setI 0x300)).readAtI 3 = [2, 5, 4] := by decide
theorem test_storeBcd_fault : (after 0xF133 ((State.reset.setV 1 0x7B).setI 0xFFE)).fault =
    some (.memoryOutOfBounds 0x200 0x1000) := by decide
theorem test_storeRegs : memReadBytes {} (after 0xF255 (((regs 0 1 1 2).setV 2 3).setI 0xFFD)).mem 0xFFD 3 = [1, 2, 3] ∧
    (after 0xF255 (((regs 0 1 1 2).setV 2 3).setI 0xFFD)).i = 0x1000 := by decide
theorem test_storeRegs_fault : (after 0xF055 (State.reset.setI 0xFFFF)).fault = some (.memoryOutOfBounds 0x200 0xFFFF) := by
  decide
theorem test_loadRegs_font : (after 0xF465 State.reset).v.toList.take 6 = [0xF0, 0x90, 0x90, 0x90, 0xF0, 0] ∧
    (after 0xF465 State.reset).i = 5 := by decide

/-! V10, V11 -/

theorem test_unmatched : (after 0x5001 State.reset).pc = 0x202 ∧
    (after 0x5001 State.reset).reports = [{ addr := 0x200, op := 0x5001 }] := by decide
theorem test_fetch_odd : (after 0x6A11 (State.reset.setPc 0x201)).getV 10 = 0x11 := by decide
theorem test_fetch_last : (after 0x6A11 (State.reset.setPc 0xFFE)).pc = 0x1000 := by decide
theorem test_fetch_fault : (after 0x6A11 (State.reset.setPc 0xFFF)).fault = some (.fetchOutOfBounds 0xFFF) ∧
    (after 0x6A11 (State.reset.setPc 0xFFF)).pc = 0xFFF := by decide

/-- The host's moves: a key written and the flag cleared before the step (60_exceptions.md R219, R220). -/
theorem test_host_turn : (((((State.reset.setDrawFlag true).setV 1 5).withFetchWord 16 0xE19E).withInputs
    [{ HostTurn.quiet with keys := some (keys [5]).key, clearDraw := true }]).afterRequest).pc = 0x204 ∧
    (((((State.reset.setDrawFlag true).setV 1 5).withFetchWord 16 0xE19E).withInputs
    [{ HostTurn.quiet with keys := some (keys [5]).key, clearDraw := true }]).afterRequest).drawFlag = false := by decide

/-- A core of another memory size (93_implementation_defined.md U5): with `M` = 4069 the last fetch is at 4067, with the default
`M` the word at 4068 is fetched. -/
theorem test_param_memSize :
    (after 0x6A11 ((State.resetWith { memSize := 4069 }).setPc 4068)).fault = some (.fetchOutOfBounds 4068) ∧
    (after 0x6A11 ((State.resetWith { memSize := 4069 }).setPc 4067)).getV 10 = 0x11 ∧
    (after 0x6A11 (State.reset.setPc 4068)).getV 10 = 0x11 := by decide

/-- Another period and clamp (60_exceptions.md R213): 50 ms at a period of 20 ms and a clamp of 30 ms is one tick, 10 ms left. -/
theorem test_param_timer : tickCount { timerPeriod := 20, deltaClamp := 30 } 0 { ms := 50, nonneg := by norm_num } = 1 ∧
    accAfter { timerPeriod := 20, deltaClamp := 30 } 0 { ms := 50, nonneg := by norm_num } = 10 := by decide +kernel

/-- Another font: its first byte is at address 0 after reset. -/
theorem test_param_font : (State.resetWith { fontData := Vector.replicate 80 0xAB }).readByte 79 = 0xAB ∧
    (State.resetWith { fontData := Vector.replicate 80 0xAB }).readByte 80 = 0 := by decide

/-- Reset leaves a fault (60_exceptions.md R203). -/
theorem test_host_reset : (State.reset.raise (.stackUnderflow 0x200)).hostReset = State.reset := by decide

/-- 70_reset_and_hazards.md R232: 3584 bytes fit, 3585 do not. -/
theorem test_rom_too_large : State.reset.loadProgram (List.replicate 3585 0) = .refused (.romTooLarge 3585) := by
  unfold State.loadProgram
  rw [List.length_replicate, if_neg (by decide)]

/-! ## The hypotheses of the obligations are met: one witness each, one per clause, at a boundary value where there is one -/

theorem test_hyp_DecodeOfEncode : wellFormed (.drw 1 2 15) = true ∧ wellFormed (.jp 0xFFF) = true := by decide
theorem test_hyp_EncodeOfDecode : decode 0xDFFF = some (.drw 15 15 15) := by decide
theorem test_hyp_Dispatch : rowOf .ret ∈ opcodeTable ∧ (rowOf .ret).fits 0x00EE = true ∧ (rowOf .cls).fits 0x00EE = false := by
  decide
theorem test_hyp_Fetch : (State.reset.setPc 0xFFE).pc.toNat + 1 < State.reset.params.memSize ∧ State.reset.fetch = some 0 := by decide

theorem test_hyp_StepRuns : (ready 0xAABC State.reset).fault = none ∧ (ready 0xAABC State.reset).hostMoves.fetch = some 0xAABC ∧
    decode 0xAABC = some (.ldI 0xABC) ∧ ∃ t, exec (.ldI 0xABC) (ready 0xAABC State.reset).hostMoves = .next t :=
  ⟨by decide, by decide, by decide, _, rfl⟩
theorem test_hyp_Unmatched : (ready 0x5001 State.reset).fault = none ∧
    (ready 0x5001 State.reset).hostMoves.fetch = some 0x5001 ∧ decode 0x5001 = none := by decide
theorem test_hyp_FetchOutOfBounds : (State.reset.setPc 0xFFF).fault = none ∧
    State.reset.params.memSize ≤ (State.reset.setPc 0xFFF).pc.toNat + 1 := by decide
theorem test_hyp_Faulted : (State.reset.raise (.stackUnderflow 0x200)).fault = some (.stackUnderflow 0x200) := by decide
theorem test_hyp_Running : State.reset.fault = none := by decide
theorem test_hyp_FaultsArePrecise : (State.reset.setPc 0xFFF).fault = none ∧ ∃ t r, step (State.reset.setPc 0xFFF) = .next t ∧
    t.fault = some r := ⟨by decide, _, _, rfl, rfl⟩
theorem test_hyp_FaultsAreExactly : State.reset.fault = none ∧ faultOf .ret State.reset ≠ none ∧
    faultOf .cls State.reset = none := by decide
theorem test_hyp_Reports : ∃ t, step (ready 0x5001 State.reset) = .next t := ⟨_, rfl⟩
theorem test_hyp_paramsOk : Params.ok {} ∧ Params.ok { memSize := 4069 } :=
  ⟨⟨⟨by decide, by decide⟩, by decide +kernel, by decide +kernel, by decide +kernel⟩,
    ⟨⟨by decide, by decide⟩, by decide +kernel, by decide +kernel, by decide +kernel⟩⟩
theorem test_hyp_Inv : Inv State.reset ∧ ∃ t, step State.reset = .next t :=
  ⟨⟨test_hyp_paramsOk.1, by decide, by decide +kernel, by decide +kernel⟩, _, rfl⟩
theorem test_hyp_InvLoad : Inv State.reset ∧ ∃ t, State.reset.loadProgram [0x12, 0x00] = .next t :=
  ⟨test_hyp_Inv.1, _, if_pos (by decide)⟩
theorem test_hyp_HostMoves : (ready 0x1200 State.reset).turn.keys = none ∧ (ready 0x1200 State.reset).turn.clearDraw = false ∧
    (State.reset.withInputs [{ HostTurn.quiet with keys := some (keys [5]).key, clearDraw := true }]).turn.keys =
      some (keys [5]).key ∧
    (State.reset.withInputs [{ HostTurn.quiet with keys := some (keys [5]).key, clearDraw := true }]).turn.clearDraw = true := by
  decide
theorem test_hyp_Parts : ∃ t, exec .cls State.reset = .next t := ⟨_, rfl⟩
theorem test_hyp_Registers : (2 : Reg) ∉ regsWritten (.or 1 3) ∧ ∃ t, exec (.or 1 3) State.reset = .next t := ⟨by decide, _, rfl⟩
theorem test_hyp_Flag : writesFlag (.or 1 3) = true ∧ writesFlag (.ldReg 1 VF) = false ∧ VF ∉ regsWritten (.ldReg 1 VF) ∧
    State.reset.fault = none ∧ ∃ t, exec (.or 1 3) State.reset = .next t ∧ t.fault = none :=
  ⟨by decide, by decide, by decide, by decide, _, rfl, by decide⟩
theorem test_hyp_PcAdvances : (State.reset.push 0x2A4 (by decide)).fault = none ∧
    0 < (State.reset.push 0x2A4 (by decide)).sp.val ∧ ∃ t, exec .ret (State.reset.push 0x2A4 (by decide)) = .next t ∧
    t.fault = none := ⟨by decide, by decide, _, rfl, by decide⟩
theorem test_hyp_OnlyRandom : (∀ x nn, Instr.cls ≠ .rnd x nn) ∧ ∃ t, exec .cls State.reset = .next t :=
  ⟨(fun _ _ h => nomatch h), _, rfl⟩
theorem test_hyp_Parked : Parked (ready 0x1200 State.reset) := ⟨by decide, by decide⟩

theorem test_hyp_TimerUpdate : State.reset.params.ok ∧ 0 ≤ State.reset.acc := ⟨test_hyp_paramsOk.1, by decide +kernel⟩
theorem test_hyp_TicksBound : Params.ok {} ∧ (0 : Millis) ≤ 16 ∧ (16 : Millis) < Params.timerPeriod {} ∧
    Params.timerPeriod {} = 1000 / 60 ∧ Params.deltaClamp {} = 100 := ⟨test_hyp_paramsOk.1, by decide +kernel⟩
/-- 100 ms, the clamp itself, split in two: 6 ticks either way. -/
theorem test_hyp_TicksSplit :
    Params.ok {} ∧ ∃ d d1 d2 : Elapsed, d.ms = d1.ms + d2.ms ∧ d.ms ≤ Params.deltaClamp {} ∧ d1.ms = 10 ∧ tickCount {} 0 d = 6 :=
  ⟨test_hyp_paramsOk.1, { ms := 100, nonneg := by norm_num }, { ms := 10, nonneg := by norm_num }, { ms := 90, nonneg := by norm_num },
    by decide +kernel⟩
theorem test_hyp_TicksComeAfter : (ready 0xFF07 State.reset).fault = none ∧
    (ready 0xFF07 State.reset).hostMoves.fetch = some 0xFF07 ∧ decode 0xFF07 = some (.ldDelay 15) ∧
    (ready 0xF015 State.reset).hostMoves.fetch = some 0xF015 ∧ decode 0xF015 = some (.setDelay 0) ∧
    (ready 0xF018 State.reset).hostMoves.fetch = some 0xF018 ∧ decode 0xF018 = some (.setSound 0) := by decide

theorem test_hyp_Jumps : fitsNNN 0xFFF = true ∧ fitsNNN 0x1000 = false := by decide
theorem test_hyp_Call : ({ State.reset with sp := 15 } : State).sp.val ≠ 16 ∧ ({ State.reset with sp := 16 } : State).sp.val = 16 := by
  decide
theorem test_hyp_Return : 0 < (State.reset.push 0x2A4 (by decide)).sp.val ∧ State.reset.sp.val = 0 := by decide
theorem test_hyp_ReturnUndoesCall : State.reset.sp.val ≠ 16 ∧ ∃ t u : State, exec (.call 0x300) State.reset = .next t ∧ u.sp = t.sp ∧
    u.stack = t.stack ∧ u.pc = 0x400 := ⟨by decide, _, State.setPc _ 0x400, rfl, rfl, rfl, rfl⟩
theorem test_hyp_SkipsOnKeys : ((State.reset.setV 1 15).getV 1).toNat < 16 ∧ 15 < ((State.reset.setV 1 16).getV 1).toNat := by
  decide
theorem test_hyp_KeyWait : (keys [3, 7]).keyDown 3 = true ∧ (∀ j, j < 3 → (keys [3, 7]).keyDown j = false) ∧
    (keys [15]).keyDown 15 = true ∧ (∀ j, j < 15 → (keys [15]).keyDown j = false) := by decide
theorem test_hyp_KeyWait_none : ∀ k, State.reset.keyDown k = false := by
  intro k
  unfold State.keyDown
  split
  · simp [State.reset, State.resetWith]
  · rfl

/-- The last sprite that fits, and the empty sprite at an `I` that is no address. -/
theorem test_hyp_Draw : (15 = 0 ∨ (State.reset.setI 0xFF1).i.toNat + 15 - 1 < State.reset.params.memSize) ∧
    (0 = 0 ∨ (State.reset.setI 0xFFFF).i.toNat + 0 - 1 < State.reset.params.memSize) ∧
    ¬ (15 = 0 ∨ (State.reset.setI 0xFF2).i.toNat + 15 - 1 < State.reset.params.memSize) := by decide
theorem test_hyp_DrawTwice : (1 = 0 ∨ (sprite 0x80).i.toNat + 1 - 1 < State.reset.params.memSize) ∧ (1 : Reg) ≠ VF ∧ (2 : Reg) ≠ VF ∧
    ∃ t u : State, exec (.drw 1 2 1) (sprite 0x80) = .next t ∧ exec (.drw 1 2 1) t = .next u ∧ t.getV VF = 0 ∧ u.getV VF = 1 :=
  ⟨by decide, by decide, by decide, _, _, rfl, rfl, by decide, by decide⟩
theorem test_hyp_DrawOnBlank : ∀ px py, pixel State.reset.display px py = false := by
  intro px py
  unfold pixel
  split
  · simp [State.reset, State.resetWith]
  · rfl
theorem test_hyp_DrawRectangle : (∃ t, exec (.drw 1 2 1) (sprite 0xFF) = .next t) ∧
    ¬ ((sprite 0xFF).spriteColumn 1 ≤ 8 ∧ 8 ≤ min ((sprite 0xFF).spriteColumn 1 + 7) 63 ∧
      (sprite 0xFF).spriteRow 2 ≤ 0 ∧ 0 < min ((sprite 0xFF).spriteRow 2 + 1) 32) := ⟨⟨_, rfl⟩, by decide⟩

theorem test_hyp_ReadAfterWrite : 0xFFF < State.reset.params.memSize := by decide
theorem test_hyp_Canonical : Memory.wf {} [] = true ∧ Memory.wf {} [(0, 1), (0xFFF, 1)] = true ∧ Memory.wf {} [(1, 0x90)] = false := by decide
theorem test_hyp_Bcd : (State.reset.setI 0xFFD).i.toNat + 2 < State.reset.params.memSize ∧
    State.reset.params.memSize ≤ (State.reset.setI 0xFFE).i.toNat + 2 := by decide
theorem test_hyp_Transfer : (State.reset.setI 0xFF0).i.toNat + (15 : Reg).val < State.reset.params.memSize ∧
    State.reset.params.memSize ≤ (State.reset.setI 0xFF1).i.toNat + (15 : Reg).val := by decide
theorem test_hyp_LoadUndoesStore : (State.reset.setI 0x300).i.toNat + (15 : Reg).val < State.reset.params.memSize ∧
    ∃ t u : State, exec (.storeRegs 15) (State.reset.setI 0x300) = .next t ∧ u.mem = t.mem ∧ u.params = t.params ∧
      u.i = (State.reset.setI 0x300).i :=
  ⟨by decide, _, State.setI _ 0x300, rfl, rfl, rfl, rfl⟩
/-- `PC` at the last pair FX55 stored, and at the byte before the first. -/
theorem test_hyp_StoredBytesAreFetched : (State.reset.setI 0xFF0).i.toNat + (15 : Reg).val < State.reset.params.memSize ∧
    ∃ t u w : State, exec (.storeRegs 15) (State.reset.setI 0xFF0) = .next t ∧ u.mem = t.mem ∧ u.params = t.params ∧
    u.pc.toNat + 1 < u.params.memSize ∧ u.pc.toNat = (State.reset.setI 0xFF0).i.toNat + (14 : Reg).val ∧
    u.pc.toNat + 1 = (State.reset.setI 0xFF0).i.toNat + (15 : Reg).val ∧ w.mem = t.mem ∧ w.params = t.params ∧
    w.pc.toNat + 1 < w.params.memSize ∧ w.pc.toNat + 1 = (State.reset.setI 0xFF0).i.toNat + (0 : Reg).val :=
  ⟨by decide, _, State.setPc _ 0xFFE, State.setPc _ 0xFEF, rfl, rfl, rfl, by decide, by decide, by decide, rfl, rfl, by decide,
    by decide⟩

/-- `PC` one byte before the three digits FX33 stored, at each of them, and so `PC + 1` at each too. -/
theorem test_hyp_StoredDigitsAreFetched : (State.reset.setI 0x300).i.toNat + 2 < State.reset.params.memSize ∧
    ∀ k : Fin 4, ∃ t u : State, exec (.storeBcd 1) (State.reset.setI 0x300) = .next t ∧ u.mem = t.mem ∧ u.params = t.params ∧
    u.pc.toNat + 1 < u.params.memSize ∧ u.pc.toNat + 1 = (State.reset.setI 0x300).i.toNat + k.val :=
  ⟨by decide, fun k => ⟨_, State.setPc _ (0x2FF + BitVec.ofNat 16 k.val), rfl, rfl, rfl,
    by revert k; decide, by revert k; decide⟩⟩

/-- With the largest `M` the last byte of memory is stored and loaded and `I` wraps to 0 (49_memory_transfer.md R177, its corner
case; 10_state.md R24). -/
theorem test_transfer_wraps_i : (after 0xF055 ((State.resetWith { memSize := 65536 }).setI 0xFFFF)).i = 0 ∧
    (after 0xF065 ((State.resetWith { memSize := 65536 }).setI 0xFFFF)).i = 0 ∧
    (after 0xF055 (((State.resetWith { memSize := 65536 }).setV 0 7).setI 0xFFFF)).readByte 0xFFFF = 7 := by decide
theorem test_hyp_Transfer_top : ((State.resetWith { memSize := 65536 }).setI 0xFFFF).i.toNat + (0 : Reg).val <
    (State.resetWith { memSize := 65536 }).params.memSize := by decide

theorem test_hyp_RomLoad : (List.replicate 3584 (0 : Byte)).length ≤ State.reset.params.memSize - 0x200 ∧
    State.reset.params.memSize - 0x200 < (List.replicate 3585 (0 : Byte)).length := by
  rw [List.length_replicate, List.length_replicate]
  decide

end Sys2Proof.Tests
end

section
namespace Sys2Proof.Proofs
open Sys2Proof Sys2Proof.Machine

/-- Settles O7: in bounds the fetch is the word of the two bytes (`State.fetch_eq_some`), and the first byte of a word counts 256
times (`toNat_wordOf`); the parity of `PC` enters nowhere (20_memory.md R52). -/
theorem fetchIsBigEndian : Obligations.FetchIsBigEndian := by
  intro s inBounds
  exact ⟨_, (s.fetch_eq_some _).mpr ⟨inBounds, rfl⟩, toNat_wordOf ..⟩

end Sys2Proof.Proofs
end

section
/-! The mask test `(op & mask) == match` of an opcode row, said as a test on the fields the decoder dispatches on
(30_encoding.md R71, R75): one lemma for each of the four masks of the table. -/

namespace Sys2Proof

theorem and_classMask (op : Word16) : op &&& 0xF000 = packNNN (opClass op) 0 := by
  simpa only [packNNN_fields] using packNNN_mask (opClass op) (fieldNNN op)

theorem and_classNMask (op : Word16) : op &&& 0xF00F = packXYN (opClass op) 0 0 (fieldN op) := by
  simpa only [packXYN_fields] using packXYN_mask (opClass op) (fieldX op) (fieldY op) (fieldN op)

theorem and_classNNMask (op : Word16) : op &&& 0xF0FF = packXNN (opClass op) 0 (fieldNN op) := by
  simpa only [packXNN_fields] using packXNN_mask (opClass op) (fieldX op) (fieldNN op)

theorem fits_mk_iff {m : String} {mask p op : Word16} : OpcodeRow.fits ⟨m, mask, p⟩ op = true ↔ op &&& mask = p :=
  beq_iff_eq

/-- The mask of all bits: the row of one word. -/
theorem fits_wordRow_iff {m : String} {p op : Word16} : OpcodeRow.fits ⟨m, 0xFFFF, p⟩ op = true ↔ op = p := by
  rw [fits_mk_iff, show (0xFFFF : Word16) = BitVec.allOnes 16 from rfl, BitVec.and_allOnes]

/-- Mask 0xF000: the row of a class. -/
theorem fits_classRow_iff {m : String} {p op : Word16} (hp : p = packNNN (opClass p) 0) :
    OpcodeRow.fits ⟨m, 0xF000, p⟩ op = true ↔ opClass op = opClass p := by
  rw [fits_mk_iff, and_classMask]
  constructor
  · intro h
    rw [← h, opClass_packNNN]
  · intro hc
    rw [hc, ← hp]

/-- Mask 0xF00F: the row of a class and a sub-operation `N`. -/
theorem fits_classNRow_iff {m : String} {p op : Word16} (hp : p = packXYN (opClass p) 0 0 (fieldN p)) :
    OpcodeRow.fits ⟨m, 0xF00F, p⟩ op = true ↔ opClass op = opClass p ∧ fieldN op = fieldN p := by
  rw [fits_mk_iff, and_classNMask]
  constructor
  · intro h
    rw [← h, opClass_packXYN, fieldN_packXYN]
    exact ⟨rfl, rfl⟩
  · rintro ⟨hc, hn⟩
    rw [hc, hn, ← hp]

/-- Mask 0xF0FF: the row of a class and a low byte `NN`. -/
theorem fits_classNNRow_iff {m : String} {p op : Word16} (hp : p = packXNN (opClass p) 0 (fieldNN p)) :
    OpcodeRow.fits ⟨m, 0xF0FF, p⟩ op = true ↔ opClass op = opClass p ∧ fieldNN op = fieldNN p := by
  rw [fits_mk_iff, and_classNNMask]
  constructor
  · intro h
    rw [← h, opClass_packXNN, fieldNN_packXNN]
    exact ⟨rfl, rfl⟩
  · rintro ⟨hc, hnn⟩
    rw [hc, hnn, ← hp]

end Sys2Proof
end

section
/-! The two-level dispatch is the opcode table (30_encoding.md R73, R75): what the decoder answers fits its row, class by class,
and a word that fits a row is decoded to an instruction of it. -/

namespace Sys2Proof.Proofs
open Sys2Proof Sys2Proof.Machine

variable {op : Word16} {i : Instr}

theorem fits_of_decodeClass0 (hc : opClass op = 0x0) (h : decodeClass0 op = some i) : (rowOf i).fits op = true := by
  have word_of_nnn {nnn : Word16} (hnnn : fieldNNN op = nnn) : op = packNNN 0x0 nnn := by
    rw [← hc, ← hnnn, packNNN_fields]
  unfold decodeClass0 at h
  split at h
  next hnnn => cases h; exact fits_wordRow_iff.mpr (word_of_nnn hnnn)
  next =>
    split at h
    next hnnn => cases h; exact fits_wordRow_iff.mpr (word_of_nnn hnnn)
    next => cases h

theorem fits_of_decodeClass8 (hc : opClass op = 0x8) (h : decodeClass8 op = some i) : (rowOf i).fits op = true := by
  unfold decodeClass8 at h
  split at h
  case h_10 => cases h
  all_goals
    next hn =>
      cases h
      exact (fits_classNRow_iff (by decide)).mpr ⟨hc, hn⟩

theorem fits_of_decodeClassE (hc : opClass op = 0xE) (h : decodeClassE op = some i) : (rowOf i).fits op = true := by
  unfold decodeClassE at h
  split at h
  case h_3 => cases h
  all_goals
    next hnn =>
      cases h
      exact (fits_classNNRow_iff (by decide)).mpr ⟨hc, hnn⟩

theorem fits_of_decodeClassF (hc : opClass op = 0xF) (h : decodeClassF op = some i) : (rowOf i).fits op = true := by
  unfold decodeClassF at h
  split at h
  case h_10 => cases h
  all_goals
    next hnn =>
      cases h
      exact (fits_classNNRow_iff (by decide)).mpr ⟨hc, hnn⟩

/-- Soundness of the dispatch: a decoded word fits the row of its instruction. -/
theorem fits_of_decode (h : decode op = some i) : (rowOf i).fits op = true := by
  unfold decode at h
  split at h
  case h_1 hc => exact fits_of_decodeClass0 hc h
  case h_6 hc | h_10 hc =>
    split at h
    next hn => cases h; exact (fits_classNRow_iff (by decide)).mpr ⟨hc, hn⟩
    next => cases h
  case h_9 hc => exact fits_of_decodeClass8 hc h
  case h_15 hc => exact fits_of_decodeClassE hc h
  case h_16 hc => exact fits_of_decodeClassF hc h
  case h_17 => cases h
  all_goals
    next hc =>
      cases h
      exact (fits_classRow_iff (by decide)).mpr hc

/-- Completeness of the dispatch: a word that fits the row of some instruction decodes to an instruction of that row. The mask
tells which field the decoder reads after the class. -/
theorem decode_of_fits (h : (rowOf i).fits op = true) : ∃ j, decode op = some j ∧ rowOf j = rowOf i := by
  cases i
  case cls | ret =>
    obtain rfl := fits_wordRow_iff.mp h
    exact ⟨_, rfl, rfl⟩
  case seReg | sneReg | ldReg | or | and | xor | addReg | sub | shr | subn | shl =>
    obtain ⟨hc, hn⟩ := (fits_classNRow_iff (by decide)).mp h
    simp only [decode, decodeClass8, hc, hn]
    exact ⟨_, rfl, rfl⟩
  case skp | sknp | ldDelay | waitKey | setDelay | setSound | addI | ldFont | storeBcd | storeRegs | loadRegs =>
    obtain ⟨hc, hnn⟩ := (fits_classNNRow_iff (by decide)).mp h
    simp only [decode, decodeClassE, decodeClassF, hc, hnn]
    exact ⟨_, rfl, rfl⟩
  all_goals
    have hc := (fits_classRow_iff (by decide)).mp h
    simp only [decode, hc]
    exact ⟨_, rfl, rfl⟩

/-- The row does not depend on the operands, so each constructor's row is found in the table by evaluation. -/
theorem rowOf_mem_opcodeTable (i : Instr) : rowOf i ∈ opcodeTable := by
  cases i <;> exact List.elem_iff.mp rfl

theorem exists_rowOf_of_mem_opcodeTable {row : OpcodeRow} (h : row ∈ opcodeTable) : ∃ i, rowOf i = row := by
  have every : ∀ r ∈ opcodeTable, ∃ i, rowOf i = r := by
    simp [opcodeTable]
  exact every row h

/-- Settles O3: the mask test of each row is the decoder's test on the fields, so a word that fits a row decodes into it
(`decode_of_fits`) and a decoded word fits its row (`fits_of_decode`). -/
theorem dispatchIsTheOpcodeTable : Obligations.DispatchIsTheOpcodeTable := by
  refine ⟨rowOf_mem_opcodeTable, fun row hrow op => ?_⟩
  obtain ⟨i, rfl⟩ := exists_rowOf_of_mem_opcodeTable hrow
  constructor
  · exact decode_of_fits
  · rintro ⟨j, hj, hrow⟩
    rw [← hrow]
    exact fits_of_decode hj

end Sys2Proof.Proofs
end

section
/-! Jumps (41_flow.md R101, R103): what a write of `PC` leaves unchanged, and the target of BNNN as a sum of numbers. -/

namespace Sys2Proof.Proofs
open Sys2Proof Sys2Proof.Machine

/-- The frame of a write of `PC`. -/
theorem keepsBut_setPc (s : State) (a : Word16) : KeepsBut [.pc] s (s.setPc a) := by
  intro p hp
  cases p
  case pc => simp at hp
  case host => exact ⟨rfl, rfl⟩
  case v | mem => exact fun _ => rfl
  all_goals exact rfl

theorem exec_jp (nnn : Word16) (s : State) : exec (.jp nnn) s = .next (s.setPc nnn) := rfl

theorem exec_jpV0 (nnn : Word16) (s : State) :
    exec (.jpV0 nnn) s = .next (s.setPc ((s.getV 0).setWidth 16 + nnn)) := rfl

theorem fitsNNN_iff {nnn : Word16} : fitsNNN nnn = true ↔ nnn.toNat < 0x1000 :=
  decide_eq_true_iff

/-- The target of BNNN does not wrap: it is at most 0xFF + 0xFFF (41_flow.md R103). -/
theorem toNat_byte_add_nnn (b : Byte) {nnn : Word16} (h : fitsNNN nnn = true) :
    (b.setWidth 16 + nnn).toNat = b.toNat + nnn.toNat := by
  have hb : (b.setWidth 16).toNat = b.toNat := BitVec.toNat_setWidth_of_le (by decide)
  have hnnn := fitsNNN_iff.mp h
  rw [BitVec.toNat_add_of_lt (by omega), hb]

/-- Settles O30: both jumps are one write of `PC` (`exec_jp`, `exec_jpV0`), whose frame is `keepsBut_setPc`; the sum of BNNN is
below 65536 (`toNat_byte_add_nnn`). -/
theorem jumpsSetThePc : Obligations.JumpsSetThePc := by
  intro nnn s
  constructor
  · exact ⟨_, exec_jp nnn s, s.setPc_pc nnn, keepsBut_setPc s nnn⟩
  · intro hnnn
    refine ⟨_, exec_jpV0 nnn s, ?_, keepsBut_setPc s _⟩
    rw [State.setPc_pc, toNat_byte_add_nnn (s.getV 0) hnnn]

end Sys2Proof.Proofs
end

section
/-! Skips (42_skip.md R110 to R113): a skip, taken or not, is one write of `PC`, and one lemma serves them all. -/

namespace Sys2Proof.Proofs
open Sys2Proof Sys2Proof.Machine

/-- The pre-advance and the skip together are one write of `PC`: 2 and 2 more are 4, also where `PC` wraps. -/
theorem skipIf_advance (s : State) (c : Bool) :
    s.advance.skipIf c = s.setPc (if c then s.pc + 4 else s.pc + 2) := by
  cases c
  case false => rfl
  case true =>
    have twice : s.pc + 2 + 2 = s.pc + 4 := BitVec.add_assoc s.pc 2 2
    exact congrArg s.setPc twice

/-- What an instruction that skips on `c` does, for a condition `p` that `c` decides. -/
theorem exists_next_of_exec_eq_skipIf {i : Instr} {s : State} {c : Bool} {p : Prop} [Decidable p]
    (hexec : exec i s = .next (s.advance.skipIf c)) (hc : c = true ↔ p) :
    ∃ t, exec i s = .next t ∧ t.pc = (if p then s.pc + 4 else s.pc + 2) ∧ KeepsBut [.pc] s t := by
  rw [skipIf_advance] at hexec
  refine ⟨_, hexec, ?_, keepsBut_setPc s _⟩
  rw [State.setPc_pc]
  exact if_congr hc rfl rfl

theorem exec_seImm (x : Reg) (nn : Byte) (s : State) :
    exec (.seImm x nn) s = .next (s.advance.skipIf (s.getV x == nn)) := rfl

theorem exec_sneImm (x : Reg) (nn : Byte) (s : State) :
    exec (.sneImm x nn) s = .next (s.advance.skipIf (s.getV x != nn)) := rfl

theorem exec_seReg (x y : Reg) (s : State) :
    exec (.seReg x y) s = .next (s.advance.skipIf (s.getV x == s.getV y)) := rfl

theorem exec_sneReg (x y : Reg) (s : State) :
    exec (.sneReg x y) s = .next (s.advance.skipIf (s.getV x != s.getV y)) := rfl

/-- Settles O34: both skip on the comparison of `V[X]` with the immediate (`exec_seImm`, `exec_sneImm`), so
`exists_next_of_exec_eq_skipIf` says what they do. -/
theorem skipsOnImmediate : Obligations.SkipsOnImmediate := by
  intro x nn s
  constructor
  · exact exists_next_of_exec_eq_skipIf (exec_seImm x nn s) beq_iff_eq
  · exact exists_next_of_exec_eq_skipIf (exec_sneImm x nn s) bne_iff_ne

/-- Settles O35: both skip on the comparison of `V[X]` with `V[Y]` (`exec_seReg`, `exec_sneReg`), so
`exists_next_of_exec_eq_skipIf` says what they do. -/
theorem skipsOnRegisters : Obligations.SkipsOnRegisters := by
  intro x y s
  constructor
  · exact exists_next_of_exec_eq_skipIf (exec_seReg x y s) beq_iff_eq
  · exact exists_next_of_exec_eq_skipIf (exec_sneReg x y s) bne_iff_ne

end Sys2Proof.Proofs
end

section
/-! Register loads (43_load_add_immediate.md R120, R121): frames compose, and an instruction that only writes one register after
the pre-advance is described once, for whatever byte it writes. -/

namespace Sys2Proof.Proofs
open Sys2Proof Sys2Proof.Machine

theorem unchanged_trans {s t u : State} {p : Part} (hst : Unchanged s t p) (htu : Unchanged t u p) : Unchanged s u p := by
  cases p
  case v | mem => exact fun k => (htu k).trans (hst k)
  case host =>
    obtain ⟨inputs_st, turnNo_st⟩ := hst
    obtain ⟨inputs_tu, turnNo_tu⟩ := htu
    exact ⟨inputs_tu.trans inputs_st, turnNo_tu.trans turnNo_st⟩
  all_goals exact Eq.trans htu hst

/-- The frame of two changes, one after the other. -/
theorem keepsBut_trans {ps qs : List Part} {s t u : State} (hst : KeepsBut ps s t) (htu : KeepsBut qs t u) :
    KeepsBut (ps ++ qs) s u := by
  intro p hp
  have hps : p ∉ ps := fun h => hp (List.mem_append_left qs h)
  have hqs : p ∉ qs := fun h => hp (List.mem_append_right ps h)
  exact unchanged_trans (hst p hps) (htu p hqs)

/-- The frame of a write of one general register. -/
theorem keepsBut_setV (s : State) (x : Reg) (b : Byte) : KeepsBut [.v] s (s.setV x b) := by
  intro p hp
  cases p
  case v => simp at hp
  case host => exact ⟨rfl, rfl⟩
  case mem => exact fun _ => rfl
  all_goals exact rfl

/-- What an instruction does that writes the byte `b` to `V[X]` and nothing else but `PC`. -/
theorem exists_next_of_exec_eq_setV {i : Instr} {s : State} {x : Reg} {b : Byte}
    (hexec : exec i s = .next (s.advance.setV x b)) :
    ∃ t, exec i s = .next t ∧ t.pc = s.pc + 2 ∧ (∀ r, t.getV r = if r = x then b else s.getV r) ∧ KeepsBut [.pc, .v] s t :=
  ⟨_, hexec, rfl, fun r => s.advance.getV_setV x r b,
    keepsBut_trans (keepsBut_setPc s (s.pc + 2)) (keepsBut_setV s.advance x b)⟩

theorem exec_ldImm (x : Reg) (nn : Byte) (s : State) : exec (.ldImm x nn) s = .next (s.advance.setV x nn) := rfl

theorem exec_addImm (x : Reg) (nn : Byte) (s : State) :
    exec (.addImm x nn) s = .next (s.advance.setV x (s.getV x + nn)) := rfl

/-- Settles O37: both write one register (`exec_ldImm`, `exec_addImm`), so `exists_next_of_exec_eq_setV` says what they do; the
sum of 7XNN is that of bytes, which is modulo 256. -/
theorem immediatesSetTheRegister : Obligations.ImmediatesSetTheRegister := by
  intro x nn s
  constructor
  · exact exists_next_of_exec_eq_setV (exec_ldImm x nn s)
  · obtain ⟨t, hexec, hpc, hv, hframe⟩ := exists_next_of_exec_eq_setV (exec_addImm x nn s)
    have sum : t.getV x = s.getV x + nn := (hv x).trans (if_pos rfl)
    have others : ∀ r, r ≠ x → t.getV r = s.getV r := fun r hr => (hv r).trans (if_neg hr)
    exact ⟨t, hexec, hpc, by rw [sum, BitVec.toNat_add], others, hframe⟩

end Sys2Proof.Proofs
end

section
/-! Register-to-register operations (44_alu.md R127 to R131, R133, R135): an instruction that writes a result and then the flag is
described once, for whatever is claimed of the two bytes; each operation adds what its own result and flag are. -/

namespace Sys2Proof.Proofs
open Sys2Proof Sys2Proof.Machine

/-- The frame of a write of a result and its flag: both are general registers. -/
theorem keepsBut_setResult (s : State) (x : Reg) (r : Byte × Bool) : KeepsBut [.v] s (s.setResult x r) :=
  fun p hp => unchanged_trans (keepsBut_setV s x r.1 p hp) (keepsBut_setV (s.setV x r.1) VF (flagByte r.2) p hp)

/-- What an instruction does that writes the result and the flag `r` and nothing else but `PC`, where the flag byte meets
`flagSpec` and the result meets `resultSpec`. The flag is written last, so the result is claimed only outside `VF` (R126). -/
theorem exists_next_of_exec_eq_setResult {i : Instr} {s : State} {x : Reg} {r : Byte × Bool} {flagSpec resultSpec : Byte → Prop}
    (hexec : exec i s = .next (s.advance.setResult x r)) (hflag : flagSpec (flagByte r.2)) (hresult : resultSpec r.1) :
    ∃ t, exec i s = .next t ∧ t.pc = s.pc + 2 ∧ flagSpec (t.getV VF) ∧ (x ≠ VF → resultSpec (t.getV x)) ∧
      (∀ q, q ≠ x → q ≠ VF → t.getV q = s.getV q) ∧ KeepsBut [.pc, .v] s t := by
  refine ⟨_, hexec, rfl, ?_, fun hx => ?_, fun q hqx hqf => ?_,
    keepsBut_trans (keepsBut_setPc s (s.pc + 2)) (keepsBut_setResult s.advance x r)⟩
  · rwa [State.getV_setResult, if_pos rfl]
  · rwa [State.getV_setResult, if_neg hx, if_pos rfl]
  · rw [State.getV_setResult, if_neg hqf, if_neg hqx, State.advance_getV]

/-! What each instruction writes. -/

theorem exec_ldReg (x y : Reg) (s : State) : exec (.ldReg x y) s = .next (s.advance.setV x (s.getV y)) := rfl

theorem exec_or (x y : Reg) (s : State) :
    exec (.or x y) s = .next (s.advance.setResult x (s.getV x ||| s.getV y, false)) := rfl

theorem exec_and (x y : Reg) (s : State) :
    exec (.and x y) s = .next (s.advance.setResult x (s.getV x &&& s.getV y, false)) := rfl

theorem exec_xor (x y : Reg) (s : State) :
    exec (.xor x y) s = .next (s.advance.setResult x (s.getV x ^^^ s.getV y, false)) := rfl

theorem exec_addReg (x y : Reg) (s : State) :
    exec (.addReg x y) s = .next (s.advance.setResult x (addFlag (s.getV x) (s.getV y))) := rfl

theorem exec_shr (x y : Reg) (s : State) :
    exec (.shr x y) s = .next (s.advance.setResult x (shrFlag (s.getV y))) := rfl

theorem exec_shl (x y : Reg) (s : State) :
    exec (.shl x y) s = .next (s.advance.setResult x (shlFlag (s.getV y))) := rfl

/-! The flag byte, and the results and flags of R125 as numbers. -/

theorem flagByte_decide (p : Prop) [Decidable p] : flagByte (decide p) = if p then 1 else 0 :=
  if_congr decide_eq_true_iff rfl rfl

theorem toNat_flagByte (f : Bool) : (flagByte f).toNat = f.toNat := by
  cases f <;> rfl

theorem toNat_flagByte_getLsbD (b : Byte) (k : Nat) : (flagByte (b.getLsbD k)).toNat = b.toNat / 2 ^ k % 2 := by
  rw [toNat_flagByte, ← BitVec.testBit_toNat, Nat.toNat_testBit]

theorem flagByte_addFlag (a b : Byte) : flagByte (addFlag a b).2 = if a.toNat + b.toNat > 255 then 1 else 0 :=
  flagByte_decide _

theorem toNat_addFlag (a b : Byte) : (addFlag a b).1.toNat = (a.toNat + b.toNat) % 256 :=
  BitVec.toNat_ofNat ..

theorem toNat_flagByte_shrFlag (b : Byte) : (flagByte (shrFlag b).2).toNat = b.toNat % 2 := by
  rw [shrFlag, toNat_flagByte_getLsbD, Nat.pow_zero, Nat.div_one]

theorem toNat_shrFlag (b : Byte) : (shrFlag b).1.toNat = b.toNat / 2 := by
  have fits : b.toNat / 2 < 2 ^ 8 := (Nat.div_le_self ..).trans_lt b.isLt
  exact (BitVec.toNat_ofNat ..).trans (Nat.mod_eq_of_lt fits)

/-- Bit 7 is the top bit of a byte, so it is all that is left above it. -/
theorem toNat_flagByte_shlFlag (b : Byte) : (flagByte (shlFlag b).2).toNat = b.toNat / 128 := by
  have oneBit : b.toNat / 128 < 2 := Nat.div_lt_of_lt_mul b.isLt
  rw [shlFlag, toNat_flagByte_getLsbD]
  exact Nat.mod_eq_of_lt oneBit

theorem toNat_shlFlag (b : Byte) : (shlFlag b).1.toNat = 2 * b.toNat % 256 :=
  BitVec.toNat_ofNat ..

/-- Settles O38: 8XY0 writes one register (`exec_ldReg`), so `exists_next_of_exec_eq_setV` says what it does. -/
theorem registerCopies : Obligations.RegisterCopies :=
  fun x y s => exists_next_of_exec_eq_setV (exec_ldReg x y s)

/-- Settles O39: each writes its result with the flag 0 (`exec_or`, `exec_and`, `exec_xor`), and the library's law of the
operation gives each bit of the result. -/
theorem logicClearsTheFlag : Obligations.LogicClearsTheFlag := by
  intro x y s
  refine ⟨?or, ?and, ?xor⟩
  case or =>
    exact exists_next_of_exec_eq_setResult (flagSpec := (· = 0))
      (resultSpec := fun v => ∀ k, v.getLsbD k = ((s.getV x).getLsbD k || (s.getV y).getLsbD k))
      (exec_or x y s) rfl (fun _ => BitVec.getLsbD_or)
  case and =>
    exact exists_next_of_exec_eq_setResult (flagSpec := (· = 0))
      (resultSpec := fun v => ∀ k, v.getLsbD k = ((s.getV x).getLsbD k && (s.getV y).getLsbD k))
      (exec_and x y s) rfl (fun _ => BitVec.getLsbD_and)
  case xor =>
    exact exists_next_of_exec_eq_setResult (flagSpec := (· = 0))
      (resultSpec := fun v => ∀ k, v.getLsbD k = ((s.getV x).getLsbD k ^^ (s.getV y).getLsbD k))
      (exec_xor x y s) rfl (fun _ => BitVec.getLsbD_xor)

/-- Settles O40: 8XY4 writes the sum and the carry of `addFlag` (`exec_addReg`); both are read off the sum of the old operands as
numbers (`toNat_addFlag`, `flagByte_addFlag`). -/
theorem addSetsTheCarry : Obligations.AddSetsTheCarry := by
  intro x y s
  exact exists_next_of_exec_eq_setResult
    (flagSpec := (· = if (s.getV x).toNat + (s.getV y).toNat > 255 then 1 else 0))
    (resultSpec := (·.toNat = ((s.getV x).toNat + (s.getV y).toNat) % 256))
    (exec_addReg x y s) (flagByte_addFlag ..) (toNat_addFlag ..)

/-- Settles O42: the shifts write the halves and doubles of the old `V[Y]` (`exec_shr`, `exec_shl`), and the bit shifted out is a
remainder or a quotient of it (`toNat_flagByte_shrFlag`, `toNat_flagByte_shlFlag`). -/
theorem shiftsReadVY : Obligations.ShiftsReadVY := by
  intro x y s
  constructor
  · exact exists_next_of_exec_eq_setResult
      (flagSpec := (·.toNat = (s.getV y).toNat % 2)) (resultSpec := (·.toNat = (s.getV y).toNat / 2))
      (exec_shr x y s) (toNat_flagByte_shrFlag _) (toNat_shrFlag _)
  · exact exists_next_of_exec_eq_setResult
      (flagSpec := (·.toNat = (s.getV y).toNat / 128)) (resultSpec := (·.toNat = 2 * (s.getV y).toNat % 256))
      (exec_shl x y s) (toNat_flagByte_shlFlag _) (toNat_shlFlag _)

end Sys2Proof.Proofs
end

section
/-! Clearing the display (46_display.md R150): what a write of the display leaves unchanged, and the pixels of the blank one. -/

namespace Sys2Proof.Proofs
open Sys2Proof Sys2Proof.Machine

/-- The frame of a write of the display. -/
theorem keepsBut_setDisplay (s : State) (d : Display) : KeepsBut [.display] s (s.setDisplay d) := by
  intro p hp
  cases p
  case display => simp at hp
  case host => exact ⟨rfl, rfl⟩
  case v | mem => exact fun _ => rfl
  all_goals exact rfl

/-- No row of the blank display has a bit, and off the grid every pixel is 0. -/
theorem pixel_blankDisplay (x y : Nat) : pixel blankDisplay x y = false := by
  by_cases hy : y < 32
  · have row : blankDisplay[y] = 0 := Vector.getElem_replicate hy
    rw [pixel, dif_pos hy, row]
    exact BitVec.getMsbD_zero
  · exact pixel_of_row_out blankDisplay x y hy

theorem exec_cls (s : State) : exec .cls s = .next (s.advance.setDisplay blankDisplay) := rfl

/-- Settles O47: 00E0 writes the blank display after the pre-advance and nothing else (`exec_cls`), every pixel of it is 0
(`pixel_blankDisplay`), and the frames of the two writes compose. -/
theorem clearBlanksTheDisplay : Obligations.ClearBlanksTheDisplay := by
  intro s
  exact ⟨_, exec_cls s, rfl, pixel_blankDisplay,
    keepsBut_trans (keepsBut_setPc s (s.pc + 2)) (keepsBut_setDisplay s.advance blankDisplay)⟩

end Sys2Proof.Proofs
end

section
/-! The key wait (47_keys.md R162): a pressed key's number fits a byte, and the rewind of `PC` undoes the pre-advance. -/

namespace Sys2Proof.Proofs
open Sys2Proof Sys2Proof.Machine

/-- Only the 16 keys of the keypad can be pressed. -/
theorem lt_16_of_keyDown {s : State} {k : Nat} (h : s.keyDown k = true) : k < 16 := by
  by_contra hk
  rw [State.keyDown, dif_neg hk] at h
  cases h

/-- The rewind undoes the pre-advance, also where `PC` wraps: the whole state is as it was. -/
theorem rewind_advance (s : State) : s.advance.setPc (s.advance.pc - 2) = s := by
  have back : s.pc + 2 - 2 = s.pc := BitVec.add_sub_cancel s.pc 2
  exact congrArg s.setPc back

theorem keepsBut_refl (ps : List Part) (s : State) : KeepsBut ps s s := by
  intro p _
  cases p
  case host => exact ⟨rfl, rfl⟩
  case v | mem => exact fun _ => rfl
  all_goals exact rfl

/-- Settles O46: the least pressed key is the one the scan finds (`State.lowestKey_eq_some`), so FX0A is one register write of a
number below 16, which a byte holds; with no key pressed (`State.lowestKey_eq_none`) it ends in the state it began in
(`rewind_advance`). -/
theorem keyWaitTakesTheLowestKey : Obligations.KeyWaitTakesTheLowestKey := by
  intro x s
  constructor
  · intro k down noneBelow
    have lowest : s.lowestKey = some k := (s.lowestKey_eq_some k).mpr ⟨down, noneBelow⟩
    obtain ⟨t, hexec, hpc, hv, hframe⟩ := exists_next_of_exec_eq_setV (exec_waitKey_of_key x lowest)
    have stored : t.getV x = BitVec.ofNat 8 k := (hv x).trans (if_pos rfl)
    have others : ∀ r, r ≠ x → t.getV r = s.getV r := fun r hr => (hv r).trans (if_neg hr)
    have fitsByte : k < 2 ^ 8 := (lt_16_of_keyDown down).trans (by decide)
    exact ⟨t, hexec, hpc, by rw [stored, BitVec.toNat_ofNat, Nat.mod_eq_of_lt fitsByte], others, hframe⟩
  · intro noneDown
    have stays : exec (.waitKey x) s = .next s := by
      rw [exec_waitKey_of_no_key x (s.lowestKey_eq_none.mpr noneDown), rewind_advance]
    exact ⟨s, stays, keepsBut_refl [] s⟩

end Sys2Proof.Proofs
end

section
/-! Timer instructions (48_timer_instructions.md R170 to R172): what a write of a timer leaves unchanged, and the three moves
between `V[X]` and a timer. -/

namespace Sys2Proof.Proofs
open Sys2Proof Sys2Proof.Machine

/-- The frame of a write of the delay timer. -/
theorem keepsBut_setDt (s : State) (b : Byte) : KeepsBut [.dt] s (s.setDt b) := by
  intro p hp
  cases p
  case dt => simp at hp
  case host => exact ⟨rfl, rfl⟩
  case v | mem => exact fun _ => rfl
  all_goals exact rfl

/-- The frame of a write of the sound timer: `soundFlag` too stays as it was, until the ticks of the step. -/
theorem keepsBut_setSt (s : State) (b : Byte) : KeepsBut [.st] s (s.setSt b) := by
  intro p hp
  cases p
  case st => simp at hp
  case host => exact ⟨rfl, rfl⟩
  case v | mem => exact fun _ => rfl
  all_goals exact rfl

theorem exec_ldDelay (x : Reg) (s : State) : exec (.ldDelay x) s = .next (s.advance.setV x s.dt) := rfl

theorem exec_setDelay (x : Reg) (s : State) : exec (.setDelay x) s = .next (s.advance.setDt (s.getV x)) := rfl

theorem exec_setSound (x : Reg) (s : State) : exec (.setSound x) s = .next (s.advance.setSt (s.getV x)) := rfl

/-- Settles O45: FX07 is one register write (`exists_next_of_exec_eq_setV`) of the `DT` the step found; FX15 and FX18 are one write
of a timer after the pre-advance, and the frames of the two writes compose. -/
theorem timerInstructionsMoveTheTimers : Obligations.TimerInstructionsMoveTheTimers := by
  intro x s
  have pcFrame : KeepsBut [.pc] s s.advance := keepsBut_setPc s (s.pc + 2)
  refine ⟨?ldDelay, ?setDelay, ?setSound⟩
  case ldDelay => exact exists_next_of_exec_eq_setV (exec_ldDelay x s)
  case setDelay => exact ⟨_, exec_setDelay x s, rfl, State.setDt_dt .., keepsBut_trans pcFrame (keepsBut_setDt _ _)⟩
  case setSound => exact ⟨_, exec_setSound x s, rfl, State.setSt_st .., keepsBut_trans pcFrame (keepsBut_setSt _ _)⟩

end Sys2Proof.Proofs
end

section
/-! The ticks of the timers (60_exceptions.md R213, R214): the number a timer holds after a tick and after `k` of them, and what the
timer update leaves unchanged. -/

namespace Sys2Proof.Proofs
open Sys2Proof Sys2Proof.Machine

theorem toNat_pos_of_ne_zero {b : Byte} (hb : b ≠ 0) : 0 < b.toNat :=
  Nat.pos_of_ne_zero ((BitVec.toNat_ne_iff_ne (y := 0#8)).mpr hb)

/-- A tick does not wrap: at 0 the truncated subtraction of numbers stops, as the tick does. -/
theorem toNat_tick (b : Byte) : (tick b).toNat = b.toNat - 1 := by
  by_cases hb : b = 0
  · subst hb
    rfl
  · have one_le : (1 : Byte) ≤ b := toNat_pos_of_ne_zero hb
    rw [tick, if_neg hb, BitVec.toNat_sub_of_le one_le]
    rfl

theorem tick_eq_ite_toNat_pos (b : Byte) : tick b = if b.toNat > 0 then b - 1 else b := by
  by_cases hb : b = 0
  · subst hb
    rfl
  · rw [tick, if_neg hb, if_pos (toNat_pos_of_ne_zero hb)]

/-- `max(0, t - k)` of 60_exceptions.md R214. -/
theorem toNat_ticks (k : Nat) (b : Byte) : (ticks k b).toNat = b.toNat - k := by
  induction k generalizing b with
  | zero => rfl
  | succ k ih =>
    calc (ticks k (tick b)).toNat
        = (tick b).toNat - k := ih (tick b)
      _ = b.toNat - 1 - k := by rw [toNat_tick]
      _ = b.toNat - (k + 1) := by omega

/-- The frame of the timer update. -/
theorem keepsBut_timerUpdate (s : State) : KeepsBut [.dt, .st, .acc] s s.timerUpdate := by
  intro p hp
  cases p
  case dt | st | acc => simp at hp
  case host => exact ⟨rfl, rfl⟩
  case v | mem => exact fun _ => rfl
  all_goals exact rfl

/-- Settles O25: a tick stops where subtraction of numbers does (`toNat_tick`), so `k` ticks subtract `k` by induction on `k`; the
ticks both timers take are the `tickCount` of the step. -/
theorem ticksSaturateAtZero : Obligations.TicksSaturateAtZero :=
  ⟨tick_eq_ite_toNat_pos, toNat_ticks, fun s =>
    ⟨tickCount s.params s.acc s.turn.delta, s.timerUpdate_dt, s.timerUpdate_st, keepsBut_timerUpdate s⟩⟩

end Sys2Proof.Proofs
end

section
/-! The ROM load (70_reset_and_hazards.md R232): what a write of memory leaves unchanged, and each byte of memory after a load. -/

namespace Sys2Proof.Proofs
open Sys2Proof Sys2Proof.Machine

/-- The frame of a write of memory. -/
theorem keepsBut_setMem (s : State) (m : List Host.Cell) : KeepsBut [.mem] s (s.setMem m) := by
  intro p hp
  cases p
  case mem => simp at hp
  case host => exact ⟨rfl, rfl⟩
  case v => exact fun _ => rfl
  all_goals exact rfl

variable {s : State} {rom : List Byte}

theorem loadProgram_of_fits (h : rom.length ≤ s.params.memSize - Config.romBase) :
    s.loadProgram rom = .next (s.setMem (memWriteBytes s.params s.mem Config.romBase rom)) :=
  if_pos h

theorem loadProgram_of_too_large (h : s.params.memSize - Config.romBase < rom.length) :
    s.loadProgram rom = .refused (.romTooLarge rom.length) :=
  if_neg (Nat.not_le_of_lt h)

/-- Each byte of memory after a load. In a memory that ends below 0x200 only the empty image fits, and it writes nothing. -/
theorem readByte_loadProgram (h : rom.length ≤ s.params.memSize - Config.romBase) (a : Nat) :
    (s.setMem (memWriteBytes s.params s.mem Config.romBase rom)).readByte a =
      if Config.romBase ≤ a ∧ a < Config.romBase + rom.length then rom.getD (a - Config.romBase) 0 else s.readByte a := by
  by_cases hM : Config.romBase ≤ s.params.memSize
  · exact memRead_memWriteBytes s.params s.mem Config.romBase a rom (Nat.add_le_of_le_sub' hM h)
  · obtain rfl : rom = [] := List.eq_nil_of_length_eq_zero (by omega)
    exact (if_neg fun ⟨above, below⟩ => Nat.not_lt_of_le above below).symm

/-- Settles O60: an image that fits is one write of memory (`loadProgram_of_fits`), whose frame is `keepsBut_setMem` and whose bytes
are `readByte_loadProgram`; a longer one fails the length test (`loadProgram_of_too_large`). -/
theorem romLoadCopiesTheImage : Obligations.RomLoadCopiesTheImage := by
  intro rom s
  refine ⟨fun fits => ⟨_, loadProgram_of_fits fits, ?image, ?otherBytes, keepsBut_setMem s _⟩, loadProgram_of_too_large⟩
  case image =>
    intro k hk
    have inImage : Config.romBase ≤ 0x200 + k ∧ 0x200 + k < Config.romBase + rom.length :=
      ⟨Nat.le_add_right .., Nat.add_lt_add_left hk _⟩
    have offset : 0x200 + k - Config.romBase = k := Nat.add_sub_cancel_left 0x200 k
    rw [readByte_loadProgram fits, if_pos inImage, offset, List.getD_eq_getElem _ _ hk]
  case otherBytes =>
    intro a outside
    have notInImage : ¬(Config.romBase ≤ a ∧ a < Config.romBase + rom.length) := by
      rw [Config.romBase]
      omega
    rw [readByte_loadProgram fits, if_neg notInImage]

end Sys2Proof.Proofs
end

section
/-! The decoder undoes the encoder and the encoder the decoder (30_encoding.md R71 to R78). -/

namespace Sys2Proof.Proofs
open Sys2Proof Sys2Proof.Machine

/-- A well-formed `N` is below 16, so its four bits are all of it. -/
theorem toNat_ofNat_of_fitsN {n : Nat} (h : fitsN n = true) : (BitVec.ofNat 4 n).toNat = n := by
  have hn : n < 2 ^ 4 := of_decide_eq_true h
  rw [BitVec.toNat_ofNat, Nat.mod_eq_of_lt hn]

/-- Settles O1: the fields of a packed word are the ones it was packed from, so the class and the sub-operation select the
instruction's own branch of the decoder; one case for each operand format. -/
theorem decodeOfEncodeIsTheInstruction : Obligations.DecodeOfEncodeIsTheInstruction := by
  intro i wf
  cases i
  case cls | ret => rfl
  case jp | call | ldI | jpV0 =>
    simp only [encode, decode, opClass_packNNN, fieldNNN_packNNN _ _ wf]
    rfl
  case seImm | sneImm | ldImm | addImm | rnd =>
    simp only [encode, decode, opClass_packXNN, fieldX_packXNN, fieldNN_packXNN]
    rfl
  case skp | sknp | ldDelay | waitKey | setDelay | setSound | addI | ldFont | storeBcd | storeRegs | loadRegs =>
    simp only [encode, decode, decodeClassE, decodeClassF, opClass_packXNN, fieldX_packXNN, fieldNN_packXNN]
    rfl
  case drw =>
    simp only [encode, decode, opClass_packXYN, fieldX_packXYN, fieldY_packXYN, fieldN_packXYN, toNat_ofNat_of_fitsN wf]
    rfl
  all_goals
    simp only [encode, decode, decodeClass8, opClass_packXYN, fieldX_packXYN, fieldY_packXYN, fieldN_packXYN, if_true]
    rfl

/-! The word put together again from the fields a branch of the decoder tested and kept. -/

section
variable {op : Word16} {i : Instr}

theorem packNNN_of_class {c : BitVec 4} (hc : opClass op = c) : packNNN c (fieldNNN op) = op := by
  rw [← hc, packNNN_fields]

theorem packXNN_of_class {c : BitVec 4} (hc : opClass op = c) : packXNN c (fieldX op) (fieldNN op) = op := by
  rw [← hc, packXNN_fields]

theorem packXNN_of_class_nn {c : BitVec 4} {nn : Byte} (hc : opClass op = c) (hnn : fieldNN op = nn) :
    packXNN c (fieldX op) nn = op := by
  rw [← hc, ← hnn, packXNN_fields]

theorem packXYN_of_class_n {c n : BitVec 4} (hc : opClass op = c) (hn : fieldN op = n) :
    packXYN c (fieldX op) (fieldY op) n = op := by
  rw [← hc, ← hn, packXYN_fields]

theorem encode_of_decodeClass0 (hc : opClass op = 0x0) (h : decodeClass0 op = some i) :
    wellFormed i = true ∧ encode i = op := by
  have word_of_nnn {nnn : Word16} (hnnn : fieldNNN op = nnn) : packNNN 0x0 nnn = op := by
    rw [← hnnn, packNNN_of_class hc]
  unfold decodeClass0 at h
  split at h
  next hnnn => cases h; exact ⟨rfl, word_of_nnn hnnn⟩
  next =>
    split at h
    next hnnn => cases h; exact ⟨rfl, word_of_nnn hnnn⟩
    next => cases h

theorem encode_of_decodeClass8 (hc : opClass op = 0x8) (h : decodeClass8 op = some i) :
    wellFormed i = true ∧ encode i = op := by
  unfold decodeClass8 at h
  split at h
  case h_10 => cases h
  all_goals
    next hn =>
      cases h
      exact ⟨rfl, packXYN_of_class_n hc hn⟩

theorem encode_of_decodeClassE (hc : opClass op = 0xE) (h : decodeClassE op = some i) :
    wellFormed i = true ∧ encode i = op := by
  unfold decodeClassE at h
  split at h
  case h_3 => cases h
  all_goals
    next hnn =>
      cases h
      exact ⟨rfl, packXNN_of_class_nn hc hnn⟩

theorem encode_of_decodeClassF (hc : opClass op = 0xF) (h : decodeClassF op = some i) :
    wellFormed i = true ∧ encode i = op := by
  unfold decodeClassF at h
  split at h
  case h_10 => cases h
  all_goals
    next hnn =>
      cases h
      exact ⟨rfl, packXNN_of_class_nn hc hnn⟩

end

/-- Settles O2: each branch of the decoder keeps the fields it does not test and fixes those it tests, so the fields it leaves the
encoder are all of the word. -/
theorem encodeOfDecodeIsTheWord : Obligations.EncodeOfDecodeIsTheWord := by
  intro op i h
  unfold decode at h
  split at h
  case h_1 hc => exact encode_of_decodeClass0 hc h
  case h_2 hc | h_3 hc | h_11 hc | h_12 hc =>
    cases h
    exact ⟨fitsNNN_fieldNNN op, packNNN_of_class hc⟩
  case h_4 hc | h_5 hc | h_7 hc | h_8 hc | h_13 hc =>
    cases h
    exact ⟨rfl, packXNN_of_class hc⟩
  case h_6 hc | h_10 hc =>
    split at h
    next hn => cases h; exact ⟨rfl, packXYN_of_class_n hc hn⟩
    next => cases h
  case h_9 hc => exact encode_of_decodeClass8 hc h
  case h_14 hc =>
    cases h
    have fourBits : BitVec.ofNat 4 (fieldN op).toNat = fieldN op := by rw [BitVec.ofNat_toNat, BitVec.setWidth_eq]
    exact ⟨decide_eq_true (fieldN op).isLt, packXYN_of_class_n hc fourBits.symm⟩
  case h_15 hc => exact encode_of_decodeClassE hc h
  case h_16 hc => exact encode_of_decodeClassF hc h
  case h_17 => cases h

/-- Settles O4: by `dispatchIsTheOpcodeTable` a word that fits a row decodes to an instruction of that row, and it decodes to one
instruction only. -/
theorem opcodePatternsAreDisjoint : Obligations.OpcodePatternsAreDisjoint := by
  obtain ⟨-, fits_iff_decode⟩ := dispatchIsTheOpcodeTable
  refine ⟨rfl, fun r1 mem1 r2 mem2 op fits1 fits2 => ?_⟩
  obtain ⟨i, hi, rfl⟩ := (fits_iff_decode r1 mem1 op).mp fits1
  obtain ⟨j, hj, rfl⟩ := (fits_iff_decode r2 mem2 op).mp fits2
  have same : i = j := Option.some.inj (hi.symm.trans hj)
  rw [same]

end Sys2Proof.Proofs
end

section
/-! The words that are no instruction (30_encoding.md R77): the fields of a word as numbers, and when the second level of the decoder
answers nothing. -/

namespace Sys2Proof.Proofs
open Sys2Proof Sys2Proof.Machine

section
variable {op : Word16}

theorem toNat_opClass : (opClass op).toNat = op.toNat / 0x1000 := by
  have := op.isLt
  simp only [opClass, BitVec.extractLsb'_toNat, Nat.shiftRight_eq_div_pow]
  omega

theorem toNat_fieldN : (fieldN op).toNat = op.toNat % 16 := by
  simp only [fieldN, BitVec.extractLsb'_toNat, Nat.shiftRight_zero]

theorem toNat_fieldNN : (fieldNN op).toNat = op.toNat % 256 := by
  simp only [fieldNN, BitVec.extractLsb'_toNat, Nat.shiftRight_zero]

theorem toNat_fieldNNN : (fieldNNN op).toNat = op.toNat % 0x1000 := by
  simp only [fieldNNN, BitVec.toNat_setWidth, BitVec.extractLsb'_toNat, Nat.shiftRight_zero]
  omega

theorem fieldN_eq_iff {n : BitVec 4} : fieldN op = n ↔ op.toNat % 16 = n.toNat := by
  rw [← toNat_fieldN, BitVec.toNat_inj]

theorem fieldNN_eq_iff {nn : Byte} : fieldNN op = nn ↔ op.toNat % 256 = nn.toNat := by
  rw [← toNat_fieldNN, BitVec.toNat_inj]

theorem fieldNNN_eq_iff {nnn : Word16} : fieldNNN op = nnn ↔ op.toNat % 0x1000 = nnn.toNat := by
  rw [← toNat_fieldNNN, BitVec.toNat_inj]

/-! When the second level of the decoder answers nothing. -/

theorem decodeClass0_eq_none_iff : decodeClass0 op = none ↔ op.toNat % 0x1000 ≠ 0x0E0 ∧ op.toNat % 0x1000 ≠ 0x0EE := by
  simp only [decodeClass0, fieldNNN_eq_iff]
  split
  next cls => simp [cls]
  next notCls =>
    split
    next ret => simp [ret]
    next notRet => simpa using And.intro notCls notRet

theorem decodeClass8_eq_none_iff : decodeClass8 op = none ↔ op.toNat % 16 ∈ [8, 9, 0xA, 0xB, 0xC, 0xD, 0xF] := by
  unfold decodeClass8
  split
  case h_10 => simp [fieldN_eq_iff] at *; omega
  all_goals
    next hn => simp [fieldN_eq_iff.mp hn]

theorem decodeClassE_eq_none_iff : decodeClassE op = none ↔ op.toNat % 256 ∉ [0x9E, 0xA1] := by
  unfold decodeClassE
  split
  case h_3 => simp [fieldNN_eq_iff] at *; omega
  all_goals
    next hnn => simp [fieldNN_eq_iff.mp hnn]

theorem decodeClassF_eq_none_iff :
    decodeClassF op = none ↔ op.toNat % 256 ∉ [0x07, 0x0A, 0x15, 0x18, 0x1E, 0x29, 0x33, 0x55, 0x65] := by
  unfold decodeClassF
  split
  case h_10 => simp [fieldNN_eq_iff] at *; omega
  all_goals
    next hnn => simp [fieldNN_eq_iff.mp hnn]

end

/-- Settles O5: in each class the decoder answers nothing exactly when its second level does, and the ten classes without one
always decode. -/
theorem unmatchedWordsAreTheListedOnes : Obligations.UnmatchedWordsAreTheListedOnes := by
  intro op
  have class_eq {c : BitVec 4} (hc : opClass op = c) : op.toNat / 0x1000 = c.toNat := by rw [← hc, toNat_opClass]
  unfold decode
  split
  case h_1 hc =>
    have class0 := class_eq hc
    have whole : op.toNat % 0x1000 = op.toNat := Nat.mod_eq_of_lt (by simp at class0; omega)
    simp [class0, decodeClass0_eq_none_iff, whole]
  case h_6 hc | h_10 hc => simp [class_eq hc, fieldN_eq_iff]
  case h_9 hc => simp [class_eq hc, decodeClass8_eq_none_iff]
  case h_15 hc => simp [class_eq hc, decodeClassE_eq_none_iff]
  case h_16 hc => simp [class_eq hc, decodeClassF_eq_none_iff]
  case h_17 =>
    clear class_eq
    generalize opClass op = c at *
    exfalso
    revert c
    decide
  all_goals
    next hc => simp [class_eq hc]

/-- Settles O6: the six words are the encodings of the six instructions (`decodeOfEncodeIsTheInstruction`), and 0x5001 is a word
of class 5 with `N` not 0 (`unmatchedWordsAreTheListedOnes`). -/
theorem sampleWordsDecode : Obligations.SampleWordsDecode :=
  ⟨decodeOfEncodeIsTheInstruction .cls rfl, decodeOfEncodeIsTheInstruction (.call 0x20A) rfl,
    decodeOfEncodeIsTheInstruction (.addImm 0xA 0x2F) rfl, decodeOfEncodeIsTheInstruction (.addReg 0xA 0xB) rfl,
    decodeOfEncodeIsTheInstruction (.drw 1 2 15) rfl, decodeOfEncodeIsTheInstruction (.loadRegs 3) rfl,
    (unmatchedWordsAreTheListedOnes 0x5001).mpr (by decide)⟩

end Sys2Proof.Proofs
end

section
/-! What an instruction does in common with all others: either it takes the fault the table of 60_exceptions.md R200 gives, and
changes nothing else, or it completes and changes only the parts its row of 10_state.md R37 names, the fault register not among
them. -/

namespace Sys2Proof.Proofs
open Sys2Proof Sys2Proof.Machine

/-! Frames of the shared writes. -/

theorem keepsBut_mono {ps qs : List Part} {s t : State} (h : KeepsBut ps s t) (sub : ps ⊆ qs) : KeepsBut qs s t :=
  fun p hp => h p fun mem => hp (sub mem)

/-- The frame of taking a fault. -/
theorem keepsBut_raise (s : State) (r : FaultRecord) : KeepsBut [.fault] s (s.raise r) := by
  intro p hp
  cases p
  case fault => simp at hp
  case host => exact ⟨rfl, rfl⟩
  case v | mem => exact fun _ => rfl
  all_goals exact rfl

/-- The frame of a write of `I`. -/
theorem keepsBut_setI (s : State) (a : Word16) : KeepsBut [.i] s (s.setI a) := by
  intro p hp
  cases p
  case i => simp at hp
  case host => exact ⟨rfl, rfl⟩
  case v | mem => exact fun _ => rfl
  all_goals exact rfl

/-- The frame of a write of `drawFlag`. -/
theorem keepsBut_setDrawFlag (s : State) (f : Bool) : KeepsBut [.drawFlag] s (s.setDrawFlag f) := by
  intro p hp
  cases p
  case drawFlag => simp at hp
  case host => exact ⟨rfl, rfl⟩
  case v | mem => exact fun _ => rfl
  all_goals exact rfl

/-- The frame of a push. -/
theorem keepsBut_push (s : State) (a : Word16) (h : s.sp.val < 16) : KeepsBut [.stack, .sp] s (s.push a h) := by
  intro p hp
  cases p
  case stack | sp => simp at hp
  case host => exact ⟨rfl, rfl⟩
  case v | mem => exact fun _ => rfl
  all_goals exact rfl

/-- The frame of a return: the stack array keeps its entries. -/
theorem keepsBut_popPc (s : State) (h : 0 < s.sp.val) : KeepsBut [.pc, .sp] s (s.popPc h) := by
  intro p hp
  cases p
  case pc | sp => simp at hp
  case host => exact ⟨rfl, rfl⟩
  case v | mem => exact fun _ => rfl
  all_goals exact rfl

/-- The frame of a load of `V[0]`, `V[1]`, .... -/
theorem keepsBut_setRegs (s : State) (bs : List Byte) : KeepsBut [.v] s (s.setRegs bs) := by
  intro p hp
  cases p
  case v => simp at hp
  case host => exact ⟨rfl, rfl⟩
  case mem => exact fun _ => rfl
  all_goals exact rfl

theorem keepsBut_advance (s : State) : KeepsBut [.pc] s s.advance := keepsBut_setPc s (s.pc + 2)

theorem keepsBut_setFlag (s : State) (f : Bool) : KeepsBut [.v] s (s.setFlag f) := keepsBut_setV s VF (flagByte f)

theorem keepsBut_writeAtI (s : State) (bs : List Byte) : KeepsBut [.mem] s (s.writeAtI bs) := keepsBut_setMem s _

theorem keepsBut_bumpI (s : State) (n : Nat) : KeepsBut [.i] s (s.bumpI n) := keepsBut_setI s _

/-- The frame of a skip. -/
theorem keepsBut_skipIf_advance (s : State) (c : Bool) : KeepsBut [.pc] s (s.advance.skipIf c) := by
  rw [skipIf_advance]
  exact keepsBut_setPc s _

/-! The range test of an access of at least one byte at `I`, by its last address. -/

theorem fits_succ_iff {s : State} {n : Nat} : s.fits (n + 1) = true ↔ s.i.toNat + n < s.params.memSize := by
  rw [s.fits_iff]
  simp

theorem fits_succ_eq_false_iff {s : State} {n : Nat} : s.fits (n + 1) = false ↔ s.params.memSize ≤ s.i.toNat + n := by
  rw [← Bool.not_eq_true, fits_succ_iff, Nat.not_lt]

section
variable {i : Instr} {s t : State} {r : FaultRecord}

/-- An instruction takes the fault the table gives it, and does nothing else. -/
theorem exec_of_faultOf_eq_some (h : faultOf i s = some r) : exec i s = .next (s.raise r) := by
  cases i
  case call nnn =>
    obtain ⟨full, ⟨⟩⟩ := Option.ite_none_right_eq_some.mp h
    exact exec_call_of_full nnn full
  case ret =>
    obtain ⟨empty, ⟨⟩⟩ := Option.ite_none_right_eq_some.mp h
    exact exec_ret_of_empty empty
  case drw x y n =>
    obtain ⟨⟨pos, out⟩, ⟨⟩⟩ := Option.ite_none_right_eq_some.mp h
    obtain ⟨m, rfl⟩ := Nat.exists_eq_add_of_lt pos
    exact exec_drw_of_not_fits x y (fits_succ_eq_false_iff.mpr out)
  case storeBcd x =>
    obtain ⟨out, ⟨⟩⟩ := Option.ite_none_right_eq_some.mp h
    exact exec_storeBcd_of_not_fits x (fits_succ_eq_false_iff.mpr out)
  case storeRegs x =>
    obtain ⟨out, ⟨⟩⟩ := Option.ite_none_right_eq_some.mp h
    exact exec_storeRegs_of_not_fits (fits_succ_eq_false_iff.mpr out)
  case loadRegs x =>
    obtain ⟨out, ⟨⟩⟩ := Option.ite_none_right_eq_some.mp h
    exact exec_loadRegs_of_not_fits (fits_succ_eq_false_iff.mpr out)
  case skp x =>
    obtain ⟨noKey, ⟨⟩⟩ := Option.ite_none_right_eq_some.mp h
    exact exec_skp_of_no_key noKey
  case sknp x =>
    obtain ⟨noKey, ⟨⟩⟩ := Option.ite_none_right_eq_some.mp h
    exact exec_sknp_of_no_key noKey
  all_goals cases h

theorem faultOf_call_eq_none_iff {nnn : Word16} : faultOf (.call nnn) s = none ↔ s.sp.val < 16 := by
  have := s.sp.isLt
  simp only [faultOf, ite_eq_right_iff, reduceCtorEq, imp_false]
  omega

theorem faultOf_ret_eq_none_iff : faultOf .ret s = none ↔ 0 < s.sp.val := by
  simp only [faultOf, ite_eq_right_iff, reduceCtorEq, imp_false]
  omega

theorem faultOf_drw_eq_none_iff {x y : Reg} {n : Nat} : faultOf (.drw x y n) s = none ↔ s.fits n = true := by
  rw [s.fits_iff]
  simp only [faultOf, ite_eq_right_iff, reduceCtorEq, imp_false]
  omega

theorem faultOf_storeBcd_eq_none_iff {x : Reg} : faultOf (.storeBcd x) s = none ↔ s.fits 3 = true := by
  rw [fits_succ_iff]
  simp only [faultOf, ite_eq_right_iff, reduceCtorEq, imp_false]
  omega

theorem faultOf_storeRegs_eq_none_iff {x : Reg} : faultOf (.storeRegs x) s = none ↔ s.fits (x.val + 1) = true := by
  rw [fits_succ_iff]
  simp only [faultOf, ite_eq_right_iff, reduceCtorEq, imp_false]
  omega

theorem faultOf_loadRegs_eq_none_iff {x : Reg} : faultOf (.loadRegs x) s = none ↔ s.fits (x.val + 1) = true :=
  faultOf_storeRegs_eq_none_iff (x := x)

theorem faultOf_skp_eq_none_iff {x : Reg} : faultOf (.skp x) s = none ↔ (s.getV x).toNat < 16 := by
  simp only [faultOf, ite_eq_right_iff, reduceCtorEq, imp_false]
  omega

theorem faultOf_sknp_eq_none_iff {x : Reg} : faultOf (.sknp x) s = none ↔ (s.getV x).toNat < 16 :=
  faultOf_skp_eq_none_iff (x := x)

end

end Sys2Proof.Proofs
end

section
/-! The two outcomes of an instruction: the faults it takes (60_exceptions.md R200), the parts it changes (10_state.md R37) and the
memory it leaves. -/

namespace Sys2Proof.Proofs
open Sys2Proof Sys2Proof.Machine

section
variable {i : Instr} {s t : State}

theorem exec_ldI (nnn : Word16) (s : State) : exec (.ldI nnn) s = .next (s.advance.setI nnn) := rfl

theorem exec_addI (x : Reg) (s : State) : exec (.addI x) s = .next (s.advance.setI (s.i + (s.getV x).setWidth 16)) := rfl

theorem exec_ldFont (x : Reg) (s : State) :
    exec (.ldFont x) s = .next (s.advance.setI (BitVec.ofNat 16 ((s.getV x).toNat * Config.glyphBytes))) := rfl

theorem exec_rnd (x : Reg) (nn : Byte) (s : State) : exec (.rnd x nn) s = .next (s.advance.setV x (s.turn.rnd &&& nn)) := rfl

theorem exec_sub (x y : Reg) (s : State) :
    exec (.sub x y) s = .next (s.advance.setResult x (subFlag (s.getV x) (s.getV y))) := rfl

theorem exec_subn (x y : Reg) (s : State) :
    exec (.subn x y) s = .next (s.advance.setResult x (subFlag (s.getV y) (s.getV x))) := rfl

/-! What a branching instruction leaves where it takes no fault. -/

theorem call_completed {nnn : Word16} (completes : faultOf (.call nnn) s = none) (h : exec (.call nnn) s = .next t) :
    ∃ room, t = (s.push (s.pc + 2) room).setPc nnn := by
  have room := faultOf_call_eq_none_iff.mp completes
  rw [exec_call_of_room nnn room] at h
  cases h
  exact ⟨room, rfl⟩

theorem ret_completed (completes : faultOf .ret s = none) (h : exec .ret s = .next t) : ∃ nonempty, t = s.popPc nonempty := by
  have nonempty := faultOf_ret_eq_none_iff.mp completes
  rw [exec_ret_of_pos nonempty] at h
  cases h
  exact ⟨nonempty, rfl⟩

theorem drw_completed {x y : Reg} {n : Nat} (completes : faultOf (.drw x y n) s = none)
    (h : exec (.drw x y n) s = .next t) :
    t = ((s.advance.setFlag (s.drawn x y n).hit).setDisplay (s.drawn x y n).display).setDrawFlag true := by
  rw [exec_drw_of_fits x y (faultOf_drw_eq_none_iff.mp completes)] at h
  cases h
  rfl

theorem skp_completed {x : Reg} (completes : faultOf (.skp x) s = none) (h : exec (.skp x) s = .next t) :
    t = s.advance.skipIf (s.keyDown (s.getV x).toNat) := by
  rw [exec_skp_of_key (faultOf_skp_eq_none_iff.mp completes)] at h
  cases h
  rfl

theorem sknp_completed {x : Reg} (completes : faultOf (.sknp x) s = none) (h : exec (.sknp x) s = .next t) :
    t = s.advance.skipIf (!s.keyDown (s.getV x).toNat) := by
  rw [exec_sknp_of_key (faultOf_sknp_eq_none_iff.mp completes)] at h
  cases h
  rfl

theorem storeBcd_completed {x : Reg} (completes : faultOf (.storeBcd x) s = none) (h : exec (.storeBcd x) s = .next t) :
    t = s.advance.writeAtI (bcdDigits (s.getV x)) := by
  rw [exec_storeBcd_of_fits x (faultOf_storeBcd_eq_none_iff.mp completes)] at h
  cases h
  rfl

theorem storeRegs_completed {x : Reg} (completes : faultOf (.storeRegs x) s = none)
    (h : exec (.storeRegs x) s = .next t) :
    t = (s.advance.writeAtI (s.v.toList.take (x.val + 1))).bumpI (x.val + 1) := by
  rw [exec_storeRegs_of_fits (faultOf_storeRegs_eq_none_iff.mp completes)] at h
  cases h
  rfl

theorem loadRegs_completed {x : Reg} (completes : faultOf (.loadRegs x) s = none) (h : exec (.loadRegs x) s = .next t) :
    t = (s.advance.setRegs (s.readAtI (x.val + 1))).bumpI (x.val + 1) := by
  rw [exec_loadRegs_of_fits (faultOf_loadRegs_eq_none_iff.mp completes)] at h
  cases h
  rfl

/-- FX0A takes a key or leaves everything as it was. -/
theorem waitKey_completed {x : Reg} (h : exec (.waitKey x) s = .next t) :
    (s.lowestKey = none ∧ t = s) ∨ ∃ k, s.lowestKey = some k ∧ t = s.advance.setV x (BitVec.ofNat 8 k) := by
  cases hk : s.lowestKey
  case none =>
    rw [exec_waitKey_of_no_key x hk, rewind_advance] at h
    cases h
    exact .inl ⟨rfl, rfl⟩
  case some k =>
    rw [exec_waitKey_of_key x hk] at h
    cases h
    exact .inr ⟨k, rfl, rfl⟩

/-! The two outcomes of an instruction. -/

/-- The frame of an instruction that completes: its row of the table, the fault register not among its parts. -/
theorem keepsBut_of_completed (completes : faultOf i s = none) (h : exec i s = .next t) :
    KeepsBut ((partsWritten i).filter (· ≠ .fault)) s t := by
  have pre := keepsBut_advance s
  cases i
  case jp | jpV0 => cases h; exact keepsBut_setPc s _
  case seImm | sneImm | seReg | sneReg => cases h; exact keepsBut_skipIf_advance s _
  case ldImm | addImm | ldReg | rnd | ldDelay => cases h; exact keepsBut_trans pre (keepsBut_setV _ _ _)
  case or | and | xor | addReg | sub | shr | subn | shl => cases h; exact keepsBut_trans pre (keepsBut_setResult _ _ _)
  case ldI | addI | ldFont => cases h; exact keepsBut_trans pre (keepsBut_setI _ _)
  case cls => cases h; exact keepsBut_trans pre (keepsBut_setDisplay _ _)
  case setDelay => cases h; exact keepsBut_trans pre (keepsBut_setDt _ _)
  case setSound => cases h; exact keepsBut_trans pre (keepsBut_setSt _ _)
  case waitKey =>
    obtain ⟨-, rfl⟩ | ⟨k, -, rfl⟩ := waitKey_completed h
    · exact keepsBut_refl _ _
    · exact keepsBut_trans pre (keepsBut_setV _ _ _)
  case call =>
    obtain ⟨room, rfl⟩ := call_completed completes h
    exact keepsBut_mono (keepsBut_trans (keepsBut_push _ _ room) (keepsBut_setPc _ _))
      (show [Part.stack, .sp, .pc] ⊆ [.pc, .stack, .sp] by decide)
  case ret =>
    obtain ⟨nonempty, rfl⟩ := ret_completed completes h
    exact keepsBut_popPc _ _
  case drw =>
    rw [drw_completed completes h]
    exact keepsBut_trans (keepsBut_trans (keepsBut_trans pre (keepsBut_setFlag _ _)) (keepsBut_setDisplay _ _))
      (keepsBut_setDrawFlag _ _)
  case skp =>
    rw [skp_completed completes h]
    exact keepsBut_skipIf_advance s _
  case sknp =>
    rw [sknp_completed completes h]
    exact keepsBut_skipIf_advance s _
  case storeBcd =>
    rw [storeBcd_completed completes h]
    exact keepsBut_trans pre (keepsBut_writeAtI _ _)
  case storeRegs =>
    rw [storeRegs_completed completes h]
    exact keepsBut_trans (keepsBut_trans pre (keepsBut_writeAtI _ _)) (keepsBut_bumpI _ _)
  case loadRegs =>
    rw [loadRegs_completed completes h]
    exact keepsBut_trans (keepsBut_trans pre (keepsBut_setRegs _ _)) (keepsBut_bumpI _ _)

/-- An instruction that completes leaves the fault register alone. -/
theorem fault_of_completed (completes : faultOf i s = none) (h : exec i s = .next t) : t.fault = s.fault :=
  keepsBut_of_completed completes h .fault fun written => of_decide_eq_true (List.mem_filter.mp written).2 rfl

/-- Everything an instruction can do: take its fault and nothing else, or complete within its parts. -/
theorem raised_or_completed (h : exec i s = .next t) :
    (∃ r, faultOf i s = some r ∧ t = s.raise r) ∨ faultOf i s = none ∧ t.fault = s.fault := by
  cases hf : faultOf i s
  case some r =>
    rw [exec_of_faultOf_eq_some hf] at h
    cases h
    exact .inl ⟨r, rfl, rfl⟩
  case none => exact .inr ⟨rfl, fault_of_completed hf h⟩

/-- In a running state the fault register says which of the two it was. -/
theorem eq_raise_of_fault {r : FaultRecord} (running : s.fault = none) (h : exec i s = .next t) (ht : t.fault = some r) :
    t = s.raise r := by
  obtain ⟨r', -, rfl⟩ | ⟨-, kept⟩ := raised_or_completed h
  · cases ht
    rfl
  · rw [kept, running] at ht
    cases ht

theorem faultOf_eq_none_of_running (h : exec i s = .next t) (ht : t.fault = none) : faultOf i s = none := by
  obtain ⟨r, -, rfl⟩ | ⟨completes, -⟩ := raised_or_completed h
  · cases ht
  · exact completes

/-- An instruction that has a row of the table of faults has the fault register among its parts. -/
theorem fault_mem_partsWritten {r : FaultRecord} (h : faultOf i s = some r) : Part.fault ∈ partsWritten i := by
  cases i
  case call | ret | drw | skp | sknp | storeBcd | storeRegs | loadRegs => simp [partsWritten]
  all_goals cases h

end

/-- Settles O19: an instruction that takes a fault changes the fault register alone (`keepsBut_raise`), which is then in its row;
one that completes keeps to the rest of its row (`keepsBut_of_completed`). -/
theorem instructionsChangeOnlyTheirParts : Obligations.InstructionsChangeOnlyTheirParts := by
  intro i s t h
  obtain ⟨r, hf, rfl⟩ | ⟨completes, -⟩ := raised_or_completed h
  · exact keepsBut_mono (keepsBut_raise s r) (by simpa using fault_mem_partsWritten hf)
  · exact keepsBut_mono (keepsBut_of_completed completes h) (List.filter_subset_self _)

/-- Settles O14: the table decides which of the two outcomes of `raised_or_completed` it is, and a completed instruction leaves the
fault register as it was, which is NONE in a running state. -/
theorem faultsAreExactlyTheTabulated : Obligations.FaultsAreExactlyTheTabulated := by
  intro i s running
  obtain ⟨t, h⟩ := exec_answers_next i s
  refine ⟨t, h, ?_⟩
  obtain ⟨r, hf, rfl⟩ | ⟨completes, kept⟩ := raised_or_completed h
  · exact ⟨hf.symm, fun _ => keepsBut_raise s r⟩
  · exact ⟨by rw [kept, running, completes], fun faults => absurd completes faults⟩

section
variable {i : Instr} {s t : State}

/-- What an instruction leaves of memory: it is written, if at all, from `I` upward. -/
theorem mem_eq_memWriteBytes_of_exec (h : exec i s = .next t) :
    ∃ bs, t.mem = memWriteBytes s.params s.mem s.i.toNat bs := by
  obtain ⟨r, -, rfl⟩ | ⟨completes, -⟩ := raised_or_completed h
  · exact ⟨[], rfl⟩
  cases i
  case storeBcd => exact ⟨_, by rw [storeBcd_completed completes h]; rfl⟩
  case storeRegs => exact ⟨_, by rw [storeRegs_completed completes h]; rfl⟩
  case call =>
    obtain ⟨room, rfl⟩ := call_completed completes h
    exact ⟨[], rfl⟩
  case ret =>
    obtain ⟨nonempty, rfl⟩ := ret_completed completes h
    exact ⟨[], rfl⟩
  case drw => exact ⟨[], by rw [drw_completed completes h]; rfl⟩
  case skp => exact ⟨[], by rw [skp_completed completes h]; rfl⟩
  case sknp => exact ⟨[], by rw [sknp_completed completes h]; rfl⟩
  case loadRegs => exact ⟨[], by rw [loadRegs_completed completes h]; rfl⟩
  case waitKey =>
    obtain ⟨-, rfl⟩ | ⟨k, -, rfl⟩ := waitKey_completed h
    · exact ⟨[], rfl⟩
    · exact ⟨[], rfl⟩
  all_goals cases h; exact ⟨[], rfl⟩

end

end Sys2Proof.Proofs
end

section
/-! What an instruction does to the general registers, the flag and `PC` (10_state.md R21 to R23), and that the host's turn is read by
CXNN alone (60_exceptions.md R222). -/

namespace Sys2Proof.Proofs
open Sys2Proof Sys2Proof.Machine

section
variable {i : Instr} {s t : State}

theorem flag_of_completed (hw : writesFlag i = true) (completes : faultOf i s = none) (h : exec i s = .next t) :
    ∃ f, t.getV VF = flagByte f := by
  cases i
  case or | and | xor | addReg | sub | shr | subn | shl =>
    cases h
    exact ⟨_, by rw [State.getV_setResult, if_pos rfl]⟩
  case drw =>
    rw [drw_completed completes h]
    exact ⟨_, State.getV_setV_self ..⟩
  all_goals cases hw

theorem flagByte_eq_zero_or_one (f : Bool) : flagByte f = 0 ∨ flagByte f = 1 := by
  cases f
  · exact .inl rfl
  · exact .inr rfl

theorem pc_skipIf_advance (s : State) (c : Bool) :
    (s.advance.skipIf c).pc = s.pc + 2 ∨ (s.advance.skipIf c).pc = s.pc + 4 := by
  rw [skipIf_advance]
  cases c
  · exact .inl rfl
  · exact .inr rfl

end

/-- Settles O20: an instruction without general registers in its row keeps them all (`instructionsChangeOnlyTheirParts`); of the
others each writes by an operation that says which registers it reaches. -/
theorem registersChangeOnlyAsTabulated : Obligations.RegistersChangeOnlyAsTabulated := by
  intro i s t r h notWritten
  have frame := instructionsChangeOnlyTheirParts i s t h
  obtain ⟨-, -, rfl⟩ | ⟨completes, -⟩ := raised_or_completed h
  · rfl
  cases i
  case ldImm | addImm | ldReg | rnd | ldDelay =>
    cases h
    rw [State.getV_setV, if_neg (List.ne_of_not_mem_cons notWritten), State.advance_getV]
  case waitKey =>
    obtain ⟨-, rfl⟩ | ⟨k, -, rfl⟩ := waitKey_completed h
    · rfl
    · rw [State.getV_setV, if_neg (List.ne_of_not_mem_cons notWritten), State.advance_getV]
  case or | and | xor | addReg | sub | shr | subn | shl =>
    cases h
    have notFlag := List.ne_of_not_mem_cons (List.not_mem_of_not_mem_cons notWritten)
    rw [State.getV_setResult, if_neg notFlag, if_neg (List.ne_of_not_mem_cons notWritten), State.advance_getV]
  case drw =>
    rw [drw_completed completes h, State.setDrawFlag_getV, State.setDisplay_getV, State.getV_setFlag,
      if_neg (List.ne_of_not_mem_cons notWritten), State.advance_getV]
  case loadRegs x =>
    have above : ¬ r.val < x.val + 1 := fun below =>
      notWritten (List.mem_filter.mpr ⟨List.mem_finRange r, decide_eq_true (Nat.le_of_lt_succ below)⟩)
    rw [loadRegs_completed completes h, State.bumpI_getV, State.getV_setRegs, State.length_readAtI, if_neg above,
      State.advance_getV]
  all_goals exact frame .v (by simp [partsWritten]) r

/-- Settles O21: an instruction of the list that completes ends with a flag byte in `VF` (`flag_of_completed`); the other half is
`registersChangeOnlyAsTabulated` for `VF`. -/
theorem flagIsWrittenByTheListedAlone : Obligations.FlagIsWrittenByTheListedAlone := by
  intro i s t h
  constructor
  · intro writes _ noFault
    obtain ⟨f, hf⟩ := flag_of_completed writes (faultOf_eq_none_of_running h noFault) h
    rw [hf]
    exact flagByte_eq_zero_or_one f
  · exact fun _ => registersChangeOnlyAsTabulated i s t VF h

/-- Settles O22: what each instruction that completes does to `PC`, read off the state it leaves. -/
theorem pcAdvancesByTwoUnlessSaidOtherwise : Obligations.PcAdvancesByTwoUnlessSaidOtherwise := by
  intro i s t _ h noFault
  have completes := faultOf_eq_none_of_running h noFault
  cases i
  case call =>
    obtain ⟨room, rfl⟩ := call_completed completes h
    rfl
  case ret =>
    obtain ⟨nonempty, rfl⟩ := ret_completed completes h
    exact fun _ => rfl
  case seImm | sneImm | seReg | sneReg =>
    cases h
    exact pc_skipIf_advance s _
  case skp =>
    rw [skp_completed completes h]
    exact pc_skipIf_advance s _
  case sknp =>
    rw [sknp_completed completes h]
    exact pc_skipIf_advance s _
  case waitKey =>
    obtain ⟨-, rfl⟩ | ⟨k, -, rfl⟩ := waitKey_completed h
    · exact .inr rfl
    · exact .inl rfl
  case drw => rw [drw_completed completes h]; rfl
  case storeBcd => rw [storeBcd_completed completes h]; rfl
  case storeRegs => rw [storeRegs_completed completes h]; rfl
  case loadRegs => rw [loadRegs_completed completes h]; rfl
  all_goals cases h; rfl

/-- The state with other host turns to come. -/
def withTurns (s : State) (ts : List HostTurn) (n : Nat) : State := { s with inputs := ts, turnNo := n }

/-- The table of faults does not read the host's turns. -/
theorem faultOf_withTurns (i : Instr) (s : State) (ts : List HostTurn) (n : Nat) :
    faultOf i (withTurns s ts n) = faultOf i s := by
  cases i <;> rfl

/-- Settles O23: the test an instruction branches on, its fault among them, reads no turn (`faultOf_withTurns`), and on each side
of the test the state it leaves is written without one. -/
theorem onlyRandomReadsTheRandomByte : Obligations.OnlyRandomReadsTheRandomByte := by
  intro i s t ts n notRnd h
  change exec i (withTurns s ts n) = .next (withTurns t ts n)
  obtain ⟨r, hf, rfl⟩ | ⟨completes, -⟩ := raised_or_completed h
  · exact exec_of_faultOf_eq_some ((faultOf_withTurns i s ts n).trans hf)
  have there : faultOf i (withTurns s ts n) = none := (faultOf_withTurns i s ts n).trans completes
  cases i
  case rnd x nn => exact absurd rfl (notRnd x nn)
  case call nnn =>
    obtain ⟨room, rfl⟩ := call_completed completes h
    exact exec_call_of_room (s := withTurns s ts n) nnn room
  case ret =>
    obtain ⟨nonempty, rfl⟩ := ret_completed completes h
    exact exec_ret_of_pos (s := withTurns s ts n) nonempty
  case drw x y n =>
    rw [drw_completed completes h]
    exact exec_drw_of_fits x y (faultOf_drw_eq_none_iff.mp there)
  case skp =>
    rw [skp_completed completes h]
    exact exec_skp_of_key (faultOf_skp_eq_none_iff.mp there)
  case sknp =>
    rw [sknp_completed completes h]
    exact exec_sknp_of_key (faultOf_sknp_eq_none_iff.mp there)
  case waitKey x =>
    obtain ⟨noKey, rfl⟩ | ⟨k, lowest, rfl⟩ := waitKey_completed h
    · rw [exec_waitKey_of_no_key (s := withTurns t ts n) x noKey, rewind_advance]
    · exact exec_waitKey_of_key x lowest
  case storeBcd x =>
    rw [storeBcd_completed completes h]
    exact exec_storeBcd_of_fits x (faultOf_storeBcd_eq_none_iff.mp there)
  case storeRegs =>
    rw [storeRegs_completed completes h]
    exact exec_storeRegs_of_fits (faultOf_storeRegs_eq_none_iff.mp there)
  case loadRegs =>
    rw [loadRegs_completed completes h]
    exact exec_loadRegs_of_fits (faultOf_loadRegs_eq_none_iff.mp there)
  all_goals cases h; rfl

end Sys2Proof.Proofs
end

section
/-! The timer update on exact rationals (60_exceptions.md R213 to R216): the remainder stays within one period, the ticks of a step
are bounded, and they do not depend on how elapsed time is split. -/

namespace Sys2Proof.Proofs
open Sys2Proof Sys2Proof.Machine

section
variable {p : Params} {acc : Millis} {delta : Elapsed}

theorem timerPeriod_pos (hp : p.ok) : 0 < p.timerPeriod := hp.2.1

theorem accAfter_nonneg (hp : p.ok) (h : 0 ≤ acc) : 0 ≤ accAfter p acc delta := by
  have whole := (le_div_iff₀ (timerPeriod_pos hp)).mp (tickCount_periods hp delta h).1
  exact sub_nonneg.mpr whole

theorem accAfter_lt (hp : p.ok) (h : 0 ≤ acc) : accAfter p acc delta < p.timerPeriod := by
  have next := (div_lt_iff₀ (timerPeriod_pos hp)).mp (tickCount_periods hp delta h).2
  rw [accAfter]
  linarith

/-- The ticks of a step are the only number of periods that leaves a remainder within one period. -/
theorem tickCount_eq_of_remainder (hp : p.ok) (h : 0 ≤ acc) {k : Nat} (lo : 0 ≤ accPlus p acc delta - k * p.timerPeriod)
    (hi : accPlus p acc delta - k * p.timerPeriod < p.timerPeriod) : tickCount p acc delta = k := by
  have pos := timerPeriod_pos hp
  obtain ⟨whole, next⟩ := tickCount_periods hp delta h
  have kWhole : (k : ℚ) ≤ accPlus p acc delta / p.timerPeriod := (le_div_iff₀ pos).mpr (by linarith)
  have kNext : accPlus p acc delta / p.timerPeriod < k + 1 := (div_lt_iff₀ pos).mpr (by linarith)
  have le : tickCount p acc delta < k + 1 := by exact_mod_cast whole.trans_lt kNext
  have ge : k < tickCount p acc delta + 1 := by exact_mod_cast kWhole.trans_lt next
  omega

/-- The accumulated time of a step is below one period and the clamp together. -/
theorem accPlus_lt (h : acc < p.timerPeriod) : accPlus p acc delta < p.timerPeriod + p.deltaClamp :=
  add_lt_add_of_lt_of_le h (min_le_right _ _)

/-- Elapsed time within the clamp counts in full. -/
theorem accPlus_of_le_clamp (h : delta.ms ≤ p.deltaClamp) : accPlus p acc delta = acc + delta.ms := by
  rw [accPlus, min_eq_left h]

theorem accAfter_of_le_clamp (h : delta.ms ≤ p.deltaClamp) :
    accAfter p acc delta = acc + delta.ms - tickCount p acc delta * p.timerPeriod := by
  rw [accAfter, accPlus_of_le_clamp h]

/-- The bound of 60_exceptions.md R215. -/
theorem tickCount_le_ticksMax (hp : p.ok) (h : 0 ≤ acc) (below : acc < p.timerPeriod) : tickCount p acc delta ≤ p.ticksMax := by
  have pos := timerPeriod_pos hp
  have whole := (tickCount_periods hp delta h).1
  have bound : accPlus p acc delta / p.timerPeriod < 1 + p.deltaClamp / p.timerPeriod := by
    rw [← div_self pos.ne', ← add_div]
    exact div_lt_div_of_pos_right (accPlus_lt below) pos
  obtain ⟨-, -, -, enough⟩ := hp
  have floored : ((tickCount p acc delta : ℤ) - 1) ≤ (p.deltaClamp / p.timerPeriod).floor :=
    Rat.le_floor_iff.mpr (by push_cast; linarith)
  omega

/-- Six whole periods and no seventh: 1000/60 ms seven times is 100 ms and one period. -/
theorem tickCount_le_six (hp : p.ok) (h : 0 ≤ acc) (below : acc < p.timerPeriod) (period : p.timerPeriod = 1000 / 60)
    (clamp : p.deltaClamp = 100) : tickCount p acc delta ≤ 6 := by
  have bound := accPlus_lt (delta := delta) below
  have whole := (le_div_iff₀ (timerPeriod_pos hp)).mp (tickCount_periods hp delta h).1
  rw [period, clamp] at bound
  rw [period] at whole
  have ticks : (tickCount p acc delta : ℚ) < 7 := by linarith
  exact Nat.le_of_lt_succ (by exact_mod_cast ticks)

end

/-- Settles O26: `k` is the `tickCount` of the step; the remainder stays within one period (`accAfter_nonneg`, `accAfter_lt`), and
each tick subtracts one (`toNat_ticks`). -/
theorem timerUpdateCountsWholePeriods : Obligations.TimerUpdateCountsWholePeriods := by
  intro s hp h
  exact ⟨tickCount s.params s.acc s.turn.delta, rfl, accAfter_nonneg hp h, accAfter_lt hp h, toNat_ticks _ _, toNat_ticks _ _,
    keepsBut_timerUpdate s⟩

/-- Settles O27: one period and the clamp bound the accumulated time (`accPlus_lt`), and so its whole periods. -/
theorem ticksOfAStepAreBounded : Obligations.TicksOfAStepAreBounded :=
  fun _ _ _ hp h below => ⟨tickCount_le_ticksMax hp h below, tickCount_le_six hp h below⟩

/-- Settles O28: the two steps together leave a remainder within one period, so their ticks are those of the one step
(`tickCount_eq_of_remainder`), and the remainders are then the same sum. -/
theorem ticksDoNotDependOnTheSplit : Obligations.TicksDoNotDependOnTheSplit := by
  intro p acc d d1 d2 hp h split clamp
  have clamp1 : d1.ms ≤ p.deltaClamp := by linarith [d2.nonneg]
  have clamp2 : d2.ms ≤ p.deltaClamp := by linarith [d1.nonneg]
  have mid := accAfter_nonneg (delta := d1) hp h
  have lo := accAfter_nonneg (delta := d2) hp mid
  have hi := accAfter_lt (delta := d2) hp mid
  have remainder : accPlus p acc d - (tickCount p acc d1 + tickCount p (accAfter p acc d1) d2 : Nat) * p.timerPeriod =
      accAfter p (accAfter p acc d1) d2 := by
    have first := accAfter_of_le_clamp (acc := acc) clamp1
    have second := accAfter_of_le_clamp (acc := accAfter p acc d1) clamp2
    rw [accPlus_of_le_clamp clamp, split]
    push_cast
    linarith
  have ticks := tickCount_eq_of_remainder hp h (remainder ▸ lo) (remainder ▸ hi)
  exact ⟨ticks, by rw [← remainder, ← ticks]; rfl⟩

end Sys2Proof.Proofs
end

section
/-! The step (40_instruction_cycle.md R90 to R97): what it answers in each case of the fetch and the decoder, what its end leaves
unchanged, and the invariant it keeps. -/

namespace Sys2Proof.Proofs
open Sys2Proof Sys2Proof.Machine

/-! Frames of the operations around an instruction. -/

/-- The frame of an unmatched word. -/
theorem keepsBut_unmatched (s : State) (op : Word16) : KeepsBut [.pc, .reports] s (s.unmatched op) := by
  intro p hp
  cases p
  case pc | reports => simp at hp
  case host => exact ⟨rfl, rfl⟩
  case v | mem => exact fun _ => rfl
  all_goals exact rfl

/-- The frame of the host's moves before a step. -/
theorem keepsBut_hostMoves (s : State) : KeepsBut [.key, .drawFlag] s s.hostMoves := by
  intro p hp
  cases p
  case key | drawFlag => simp at hp
  case host => exact ⟨rfl, rfl⟩
  case v | mem => exact fun _ => rfl
  all_goals exact rfl

/-- The frame of using up a turn. -/
theorem keepsBut_nextTurn (s : State) : KeepsBut [.host] s s.nextTurn := by
  intro p hp
  cases p
  case host => simp at hp
  case v | mem => exact fun _ => rfl
  all_goals exact rfl

/-- The end of a step, as the test of the fault register it is. -/
theorem endStep_eq_ite (s : State) : s.endStep = if s.fault = none then s.timerUpdate.nextTurn else s := by
  cases hf : s.fault
  case none => rw [State.endStep_of_running hf, if_pos rfl]
  case some r => rw [State.endStep_of_fault hf, if_neg (Option.some_ne_none r)]

/-- The frame of the end of a step. -/
theorem keepsBut_endStep (s : State) : KeepsBut [.dt, .st, .acc, .host] s s.endStep := by
  rw [endStep_eq_ite]
  split
  · exact keepsBut_trans (keepsBut_timerUpdate s) (keepsBut_nextTurn s.timerUpdate)
  · exact keepsBut_refl _ s

/-! What a step answers. -/

section
variable {s : State} {op : Word16}

theorem step_of_fault {r : FaultRecord} (h : s.fault = some r) : step s = .fault (.stopped r) := by
  simp only [step, h]

theorem step_of_fetch_none (running : s.fault = none) (h : s.hostMoves.fetch = none) :
    step s = .next (s.hostMoves.raise (.fetchOutOfBounds s.pc)) := by
  simp only [step, coreStep, running, h]
  rfl

theorem step_of_unmatched (running : s.fault = none) (hop : s.hostMoves.fetch = some op) (h : decode op = none) :
    step s = .next (s.hostMoves.unmatched op).endStep := by
  simp only [step, coreStep, running, hop, h, endOutcome]

theorem step_of_exec {i : Instr} {t : State} (running : s.fault = none) (hop : s.hostMoves.fetch = some op)
    (hi : decode op = some i) (h : exec i s.hostMoves = .next t) : step s = .next t.endStep := by
  simp only [step, coreStep, running, hop, hi, h, endOutcome]

/-- A step whose instruction leaves no fault ends with the timer update. -/
theorem step_of_exec_running {i : Instr} {t : State} (running : s.fault = none) (hop : s.hostMoves.fetch = some op)
    (hi : decode op = some i) (h : exec i s.hostMoves = .next t) (noFault : t.fault = none) :
    step s = .next t.timerUpdate.nextTurn := by
  rw [step_of_exec running hop hi h, State.endStep_of_running noFault]

end

/-- Settles O8: the step is the instruction and then the end of the step (`step_of_exec`), which tests the fault register. -/
theorem stepRunsTheDecodedInstruction : Obligations.StepRunsTheDecodedInstruction := by
  intro s t op i running hop hi h
  rw [step_of_exec running hop hi h, endStep_eq_ite]

/-- Settles O9: the handler state is the host's state with `PC` advanced and the report (`keepsBut_unmatched`); it has no fault, so
the step ends with the timer update. -/
theorem unmatchedWordIsSkippedAndReported : Obligations.UnmatchedWordIsSkippedAndReported := by
  intro s op running hop h
  refine ⟨s.hostMoves.unmatched op, ?_, rfl, running, rfl, keepsBut_unmatched _ op⟩
  rw [step_of_unmatched running hop h, State.endStep_of_running (s := s.hostMoves.unmatched op) running]

/-- Settles O10: the host's moves leave `PC` and the memory size, so the fetch leaves memory and the step raises the fault, whose
frame is `keepsBut_raise`. -/
theorem fetchOutOfBoundsFaults : Obligations.FetchOutOfBoundsFaults := by
  intro s running out
  exact ⟨_, step_of_fetch_none running (s.hostMoves.fetch_eq_none.mpr out), rfl, keepsBut_raise _ _⟩

/-- Settles O11: the step tests the fault register first (`step_of_fault`), and the state after a request follows its answer. -/
theorem faultedCoreHasNoStep : Obligations.FaultedCoreHasNoStep := by
  intro s r faulted
  have stop := step_of_fault faulted
  exact ⟨stop, by rw [State.afterRequest, stop]⟩

/-- Settles O12: a step goes one of three ways, and each answers a next state; for an instruction that is `exec_answers_next`. -/
theorem runningCoreAlwaysSteps : Obligations.RunningCoreAlwaysSteps := by
  intro s running
  cases hop : s.hostMoves.fetch
  case none => exact ⟨_, step_of_fetch_none running hop⟩
  case some op =>
    cases hi : decode op
    case none => exact ⟨_, step_of_unmatched running hop hi⟩
    case some i =>
      obtain ⟨t, h⟩ := exec_answers_next i s.hostMoves
      exact ⟨_, step_of_exec running hop hi h⟩

/-- A step that ends with a fault is the raise of it on the state the host left. -/
theorem eq_raise_of_step_fault {s t : State} {r : FaultRecord} (h : step s = .next t) (ht : t.fault = some r) :
    t = s.hostMoves.raise r := by
  obtain ⟨running, ⟨-, rfl⟩ | ⟨op, -, -, rfl⟩ | ⟨op, i, u, -, -, hu, rfl⟩⟩ := step_eq_next h
  · cases ht
    rfl
  · rw [State.endStep_fault, State.unmatched_fault, State.hostMoves_fault, running] at ht
    cases ht
  · rw [State.endStep_fault] at ht
    rw [State.endStep_of_fault ht]
    exact eq_raise_of_fault running hu ht

/-- Settles O13: a step that ends with a fault is one raise (`eq_raise_of_step_fault`); the host's moves and the use of the turn
change what their frames say. -/
theorem faultsArePrecise : Obligations.FaultsArePrecise := by
  refine ⟨fun s t r _ h ht => eq_raise_of_step_fault h ht, fun s => ⟨keepsBut_hostMoves s, ?_, ?_, ?_, ?_,
    keepsBut_nextTurn s, rfl, rfl⟩⟩
  · intro k hk
    rw [State.hostMoves_key, hk, Option.getD_some]
  · intro hk
    rw [State.hostMoves_key, hk, Option.getD_none]
  · intro hc
    rw [State.hostMoves_drawFlag, hc, Bool.not_true, Bool.and_false]
  · intro hc
    rw [State.hostMoves_drawFlag, hc, Bool.not_false, Bool.and_true]

/-- No instruction emits a report. -/
theorem reports_of_exec {i : Instr} {s t : State} (h : exec i s = .next t) : t.reports = s.reports :=
  instructionsChangeOnlyTheirParts i s t h .reports (by cases i <;> simp [partsWritten])

theorem reports_endStep (s : State) : s.endStep.reports = s.reports :=
  keepsBut_endStep s .reports (by decide)

/-- Settles O15: of the three ways a step goes, only the unmatched word emits a report; no instruction does (`reports_of_exec`),
nor does the end of a step. -/
theorem reportsAreForUnmatchedWords : Obligations.ReportsAreForUnmatchedWords := by
  intro s t h
  obtain ⟨-, ⟨-, rfl⟩ | ⟨op, hop, hi, rfl⟩ | ⟨op, i, u, -, -, hu, rfl⟩⟩ := step_eq_next h
  · exact .inl rfl
  · exact .inr ⟨op, hop, hi, reports_endStep _⟩
  · exact .inl ((reports_endStep u).trans (reports_of_exec (s := s.hostMoves) hu))

/-! The invariant. -/

section
variable {i : Instr} {s t : State}

theorem params_of_exec (h : exec i s = .next t) : t.params = s.params :=
  instructionsChangeOnlyTheirParts i s t h .params (by cases i <;> simp [partsWritten])

theorem acc_of_exec (h : exec i s = .next t) : t.acc = s.acc :=
  instructionsChangeOnlyTheirParts i s t h .acc (by cases i <;> simp [partsWritten])

/-- An instruction writes memory in canonical form, and neither `acc` nor a parameter. -/
theorem inv_of_exec (hs : Inv s) (h : exec i s = .next t) : Inv t := by
  obtain ⟨bs, hmem⟩ := mem_eq_memWriteBytes_of_exec h
  obtain ⟨ok, wf, acc_bounds⟩ := hs
  rw [Machine.Inv, params_of_exec h, acc_of_exec h, hmem]
  exact ⟨ok, memWriteBytes_wf _ _ _ wf, acc_bounds⟩

/-- The end of a step carries a remainder below one period (`accAfter_lt`). -/
theorem inv_endStep (hs : Inv s) : Inv s.endStep := by
  rw [endStep_eq_ite]
  split
  · obtain ⟨ok, wf, nonneg, -⟩ := hs
    exact ⟨ok, wf, accAfter_nonneg ok nonneg, accAfter_lt ok nonneg⟩
  · exact hs

theorem params_endStep (s : State) : s.endStep.params = s.params :=
  keepsBut_endStep s .params (by decide)

end

/-- Settles O16: the host's moves, a fault and an unmatched word touch nothing the invariant reads; an instruction keeps it
(`inv_of_exec`), and so does the end of the step (`inv_endStep`). -/
theorem stepKeepsTheInvariant : Obligations.StepKeepsTheInvariant := by
  intro s t hs h
  obtain ⟨-, ⟨-, rfl⟩ | ⟨op, -, -, rfl⟩ | ⟨op, i, u, -, -, hu, rfl⟩⟩ := step_eq_next h
  · exact ⟨hs, rfl⟩
  · exact ⟨inv_endStep (s := s.hostMoves.unmatched op) hs, params_endStep _⟩
  · exact ⟨inv_endStep (inv_of_exec (s := s.hostMoves) hs hu), (params_endStep u).trans (params_of_exec (s := s.hostMoves) hu)⟩

/-- Settles O17: after reset memory lists nothing and `acc` is 0, which lies below the period; a ROM load that is not refused is one
write of bytes, and the host's other operations touch nothing the invariant reads. -/
theorem resetMeetsTheInvariant : Obligations.ResetMeetsTheInvariant := by
  have atReset (p : Params) (ok : p.ok) : Inv (State.resetWith p) := ⟨ok, reset_mem_wf p, le_rfl, timerPeriod_pos ok⟩
  refine ⟨atReset, atReset _ Params.ok_default, fun s ok => atReset s.params ok, ?load, fun _ _ hs => hs, fun _ hs => hs⟩
  case load =>
    rintro s t rom ⟨ok, wf, acc_bounds⟩ h
    obtain ⟨-, rfl⟩ := State.loadProgram_eq_next h
    exact ⟨ok, memWriteBytes_wf _ _ _ wf, acc_bounds⟩

/-- Settles O24: a jump to itself writes `PC` with its own value, so the step is the end of a step on the state the host left, and
neither the host nor the end of a step moves `PC` or memory. -/
theorem parkedCoreStaysParked : Obligations.ParkedCoreStaysParked := by
  rintro s ⟨running, hjp⟩
  obtain ⟨op, hop, hi⟩ := Option.bind_eq_some_iff.mp hjp
  have stays : exec (.jp s.pc) s.hostMoves = .next s.hostMoves := exec_jp s.pc s.hostMoves
  refine ⟨_, step_of_exec_running running hop hi stays running, ⟨running, hjp⟩, ?_⟩
  exact keepsBut_trans (keepsBut_timerUpdate _) (keepsBut_nextTurn _)

/-- Settles O29: each of the three completes without a fault, so its step is the timer update of the state it leaves
(`step_of_exec_running`), whose ticks subtract from the timer as the instruction left it (`toNat_ticks`). -/
theorem ticksComeAfterTheHandler : Obligations.TicksComeAfterTheHandler := by
  intro s op x running hop
  refine ⟨fun hi => ?_, fun hi => ?_, fun hi => ?_⟩
  · exact ⟨_, step_of_exec_running running hop hi (exec_ldDelay x _) running, State.getV_setV_self _ x _, toNat_ticks _ _⟩
  · exact ⟨_, step_of_exec_running running hop hi (exec_setDelay x _) running, toNat_ticks _ _⟩
  · exact ⟨_, step_of_exec_running running hop hi (exec_setSound x _) running, toNat_ticks _ _⟩

end Sys2Proof.Proofs
end

section
/-! Call and return (41_flow.md R100, R102): one push, one pop, or one raise. -/

namespace Sys2Proof.Proofs
open Sys2Proof Sys2Proof.Machine

/-- What an instruction does that takes a fault. -/
theorem exists_next_of_exec_eq_raise {i : Instr} {s : State} {r : FaultRecord} (hexec : exec i s = .next (s.raise r)) :
    ∃ t, exec i s = .next t ∧ t.fault = some r ∧ KeepsBut [.fault] s t :=
  ⟨_, hexec, rfl, keepsBut_raise s r⟩

theorem eq_of_exec_eq_next {i : Instr} {s t t' : State} (h : exec i s = .next t) (h' : exec i s = .next t') : t = t' :=
  Host.Outcome.next.inj (h.symm.trans h')

/-- Settles O31: with room on the stack the call is one push and one write of `PC` (`exec_call_of_room`); without it is one raise
(`exec_call_of_full`). -/
theorem callPushesTheReturnAddress : Obligations.CallPushesTheReturnAddress := by
  intro nnn s
  refine ⟨fun notFull => ?room, fun full => exists_next_of_exec_eq_raise (exec_call_of_full nnn full)⟩
  case room =>
    have room : s.sp.val < 16 := Nat.lt_of_le_of_ne (Nat.le_of_lt_succ s.sp.isLt) notFull
    refine ⟨_, exec_call_of_room nnn room, rfl, rfl, fun j hj => ?entries, ?frame⟩
    case entries =>
      exact (Vector.getElem_set room hj).trans (if_congr eq_comm rfl rfl)
    case frame =>
      exact keepsBut_mono (keepsBut_trans (keepsBut_push s (s.pc + 2) room) (keepsBut_setPc _ nnn)) (by decide)

/-- Settles O32: with an entry on the stack the return is one pop (`exec_ret_of_pos`); without it is one raise
(`exec_ret_of_empty`). -/
theorem returnPopsTheReturnAddress : Obligations.ReturnPopsTheReturnAddress := by
  intro s
  exact ⟨fun nonempty => ⟨_, exec_ret_of_pos nonempty, rfl, rfl, keepsBut_popPc s nonempty⟩,
    fun empty => exists_next_of_exec_eq_raise (exec_ret_of_empty empty)⟩

/-- Settles O33: the call leaves `sp` one higher and the return address in the entry below it, which is the entry the return
pops. -/
theorem returnUndoesCall : Obligations.ReturnUndoesCall := by
  intro nnn s t u notFull hcall hsp hstack
  obtain ⟨t', hcall', -, spCall, entries, -⟩ := (callPushesTheReturnAddress nnn s).1 notFull
  obtain rfl := eq_of_exec_eq_next hcall hcall'
  have spU : u.sp.val = s.sp.val + 1 := by rw [hsp, spCall]
  obtain ⟨w, hret, spRet, pcRet, -⟩ := (returnPopsTheReturnAddress u).1 (by omega)
  have top : u.sp.val - 1 = s.sp.val := by omega
  refine ⟨w, hret, ?_, Fin.ext (spRet.trans top)⟩
  rw [pcRet]
  simp only [hstack, entries, top, if_true]

end Sys2Proof.Proofs
end

section
/-! Skips on keys (47_keys.md R160, R161). -/

namespace Sys2Proof.Proofs
open Sys2Proof Sys2Proof.Machine

theorem keyDown_of_lt {s : State} {k : Nat} (h : k < 16) : s.keyDown k = s.key[k] := by
  rw [State.keyDown, dif_pos h]

/-- Settles O36: a key number below 16 is a key, and the instruction skips on it (`exists_next_of_exec_eq_skipIf`); above it is one
raise. -/
theorem skipsOnKeys : Obligations.SkipsOnKeys := by
  intro x s
  refine ⟨fun key => ⟨?skp, ?sknp⟩, fun noKey => ⟨?_, ?_⟩⟩
  case skp => exact exists_next_of_exec_eq_skipIf (exec_skp_of_key key) (by rw [keyDown_of_lt key])
  case sknp => exact exists_next_of_exec_eq_skipIf (exec_sknp_of_key key) (by rw [keyDown_of_lt key, Bool.not_eq_true'])
  · exact exists_next_of_exec_eq_raise (exec_skp_of_no_key noKey)
  · exact exists_next_of_exec_eq_raise (exec_sknp_of_no_key noKey)

end Sys2Proof.Proofs
end

section
/-! Subtraction as numbers (44_alu.md R132, R134). -/

namespace Sys2Proof.Proofs
open Sys2Proof Sys2Proof.Machine

theorem flagByte_subFlag (a b : Byte) : flagByte (subFlag a b).2 = if a.toNat ≥ b.toNat then 1 else 0 :=
  flagByte_decide _

/-- A negative difference is narrowed by adding 256. -/
theorem toNat_subFlag (a b : Byte) :
    (subFlag a b).1.toNat = if a.toNat ≥ b.toNat then a.toNat - b.toNat else a.toNat + 256 - b.toNat := by
  have ha := a.isLt
  have hb := b.isLt
  simp only [subFlag, BitVec.toNat_ofInt]
  split <;> omega

/-- Settles O41: both write the difference and the not-borrow of `subFlag`, 8XY7 with the operands exchanged; both are read off the
old operands as numbers (`toNat_subFlag`, `flagByte_subFlag`). -/
theorem subtractsSetTheNotBorrow : Obligations.SubtractsSetTheNotBorrow := by
  intro x y s
  constructor
  · exact exists_next_of_exec_eq_setResult
      (flagSpec := (· = if (s.getV x).toNat ≥ (s.getV y).toNat then 1 else 0))
      (resultSpec := (·.toNat = if (s.getV x).toNat ≥ (s.getV y).toNat then (s.getV x).toNat - (s.getV y).toNat
        else (s.getV x).toNat + 256 - (s.getV y).toNat))
      (exec_sub x y s) (flagByte_subFlag ..) (toNat_subFlag ..)
  · exact exists_next_of_exec_eq_setResult
      (flagSpec := (· = if (s.getV x).toNat ≤ (s.getV y).toNat then 1 else 0))
      (resultSpec := (·.toNat = if (s.getV x).toNat ≤ (s.getV y).toNat then (s.getV y).toNat - (s.getV x).toNat
        else (s.getV y).toNat + 256 - (s.getV x).toNat))
      (exec_subn x y s) (flagByte_subFlag ..) (toNat_subFlag ..)

end Sys2Proof.Proofs
end

section
/-! The index register and the random byte (45_index_random.md R140 to R143). -/

namespace Sys2Proof.Proofs
open Sys2Proof Sys2Proof.Machine

/-- What an instruction does that writes `I` and nothing else but `PC`. -/
theorem exists_next_of_exec_eq_setI {i : Instr} {s : State} {a : Word16} {spec : Word16 → Prop}
    (hexec : exec i s = .next (s.advance.setI a)) (ha : spec a) :
    ∃ t, exec i s = .next t ∧ t.pc = s.pc + 2 ∧ spec t.i ∧ KeepsBut [.pc, .i] s t :=
  ⟨_, hexec, rfl, ha, keepsBut_trans (keepsBut_advance s) (keepsBut_setI s.advance a)⟩

theorem toNat_add_byte (a : Word16) (b : Byte) : (a + b.setWidth 16).toNat = (a.toNat + b.toNat) % 65536 := by
  rw [BitVec.toNat_add, BitVec.toNat_setWidth_of_le (by decide)]

/-- Five times a byte fits a word: it is at most 1275. -/
theorem toNat_glyphAddress (b : Byte) : (BitVec.ofNat 16 (b.toNat * Config.glyphBytes)).toNat = b.toNat * 5 := by
  have hb := b.isLt
  rw [BitVec.toNat_ofNat, Config.glyphBytes]
  omega

/-- Settles O43: each writes `I` alone (`exists_next_of_exec_eq_setI`); the sum of FX1E is that of words, and the product of FX29
does not wrap. -/
theorem indexRegisterWrites : Obligations.IndexRegisterWrites := by
  intro x nnn s
  refine ⟨?ldI, ?addI, ?ldFont⟩
  case ldI => exact exists_next_of_exec_eq_setI (spec := (· = nnn)) (exec_ldI nnn s) rfl
  case addI =>
    exact exists_next_of_exec_eq_setI (spec := (·.toNat = (s.i.toNat + (s.getV x).toNat) % 65536)) (exec_addI x s)
      (toNat_add_byte ..)
  case ldFont =>
    exact exists_next_of_exec_eq_setI (spec := (·.toNat = (s.getV x).toNat * 5)) (exec_ldFont x s) (toNat_glyphAddress _)

/-- Settles O44: CXNN is one register write (`exists_next_of_exec_eq_setV`) of the random byte under the mask, of which the
mask's complement leaves nothing. -/
theorem randomIsUnderTheMask : Obligations.RandomIsUnderTheMask := by
  intro x nn s
  obtain ⟨t, hexec, hpc, hv, hframe⟩ := exists_next_of_exec_eq_setV (exec_rnd x nn s)
  have masked : t.getV x = s.turn.rnd &&& nn := (hv x).trans (if_pos rfl)
  refine ⟨t, hexec, hpc, hv, ?_, hframe⟩
  rw [masked, BitVec.and_assoc, BitVec.and_not_self]
  exact BitVec.and_zero

end Sys2Proof.Proofs
end

section
/-! Reset (70_reset_and_hazards.md R230): the value of each part, and the frame of the reset the host asks for. -/

namespace Sys2Proof.Proofs
open Sys2Proof Sys2Proof.Machine

/-- Above the 80 bytes of the font memory is 0 after reset. -/
theorem resetByte_of_le {p : Params} {a : Nat} (h : 80 ≤ a) : p.resetByte a = 0 := by
  rw [Params.resetByte, Vector.getElem?_eq_none h, Option.getD_none]

theorem resetByte_of_lt {p : Params} {a : Nat} (h : a < 80) : p.resetByte a = p.fontData[a] := by
  rw [Params.resetByte, Vector.getElem?_eq_getElem h, Option.getD_some]

theorem keyDown_resetWith (p : Params) (k : Nat) : (State.resetWith p).keyDown k = false := by
  by_cases h : k < 16
  · rw [keyDown_of_lt h]
    exact Vector.getElem_replicate h
  · rw [State.keyDown, dif_neg h]

/-- A reset asked for by the host is a reset but for the model's own fields. -/
theorem keepsBut_hostReset (s : State) : KeepsBut [.reports, .host] (State.resetWith s.params) s.hostReset := by
  intro p hp
  cases p
  case reports | host => simp at hp
  case v | mem => exact fun _ => rfl
  all_goals exact rfl

/-- The parts a reset writes are those of the spec. -/
theorem keepsBut_hostReset_from (s : State) : KeepsBut
    [.v, .pc, .i, .stack, .sp, .mem, .display, .key, .dt, .st, .acc, .drawFlag, .soundFlag, .fault] s s.hostReset := by
  intro p hp
  cases p
  case reports | params => rfl
  case host => exact ⟨rfl, rfl⟩
  all_goals simp at hp

/-- Settles O18: each part of the reset state is read off its definition; the blank display is `pixel_blankDisplay`, and memory,
which lists nothing, reads as the font and 0 above. -/
theorem resetValues : Obligations.ResetValues := by
  refine ⟨fun p => ⟨fun r => Vector.getElem_replicate r.isLt, rfl, rfl, rfl, fun j hj => Vector.getElem_replicate hj,
    fun a ha => resetByte_of_le ha, fun a ha => resetByte_of_lt ha, pixel_blankDisplay, keyDown_resetWith p,
    rfl, rfl, rfl, rfl, rfl, rfl, rfl⟩, fun s => ⟨keepsBut_hostReset s, keepsBut_hostReset_from s⟩, ?defaults⟩
  case defaults => exact ⟨rfl, rfl, Params.timerPeriod_default, rfl, rfl, rfl⟩

end Sys2Proof.Proofs
end

section
/-! DXYN (46_display.md R152, R153): its drawing pixel by pixel and its collision, in terms of the placed sprite `spriteBit`. -/

namespace Sys2Proof.Proofs
open Sys2Proof Sys2Proof.Machine

section
variable {s : State} {x y : Reg} {n : Nat}

theorem getD_readAtI {k : Nat} (h : k < n) : (s.readAtI n).getD k 0 = s.readByte (s.i.toNat + k) := by
  have hk : k < (s.readAtI n).length := by rwa [State.length_readAtI]
  rw [List.getD_eq_getElem _ _ hk]
  exact getElem_memReadBytes ..

/-- The bytes DXYN reads at `I` are the placed sprite. -/
theorem spriteHas_readAtI (s : State) (x y : Reg) (n px py : Nat) :
    spriteHas (s.spriteColumn x) (s.spriteRow y) (s.readAtI n) px py = spriteBit s x y n px py := by
  rw [spriteHas, spriteBit, State.length_readAtI]
  by_cases inside : s.spriteColumn x ≤ px ∧ px < s.spriteColumn x + 8 ∧ s.spriteRow y ≤ py ∧ py < s.spriteRow y + n
  · obtain ⟨-, -, above, below⟩ := inside
    rw [getD_readAtI (by omega)]
  · rw [decide_eq_false inside, Bool.false_and, Bool.false_and]

/-- Every pixel after the drawing, on the grid or off it. -/
theorem pixel_drawn (s : State) (x y : Reg) (n px py : Nat) :
    pixel (s.drawn x y n).display px py = (pixel s.display px py ^^ (onGrid px py && spriteBit s x y n px py)) := by
  rw [State.drawn, pixel_drawSprite, spriteHas_readAtI]

/-- The drawing collides where a sprite bit falls on a pixel that is 1. -/
theorem hit_drawn (s : State) (x y : Reg) (n : Nat) :
    (s.drawn x y n).hit = true ↔
      ∃ px py, px < 64 ∧ py < 32 ∧ spriteBit s x y n px py = true ∧ pixel s.display px py = true := by
  rw [State.drawn, hit_drawSprite]
  simp only [Bool.false_eq_true, false_or, spriteHas_readAtI, onGrid, decide_eq_true_eq, and_assoc]

theorem onGrid_of_lt {px py : Nat} (hx : px < 64) (hy : py < 32) : onGrid px py = true :=
  decide_eq_true ⟨hx, hy⟩

/-- The range test of DXYN, as the obligations write it. -/
theorem fits_of_range (h : n = 0 ∨ s.i.toNat + n - 1 < s.params.memSize) : s.fits n = true := by
  rw [s.fits_iff]
  omega

theorem flagByte_eq_one_iff {f : Bool} : flagByte f = 1 ↔ f = true := by
  cases f <;> decide

end

/-- Settles O48: DXYN writes the flag, the display and `drawFlag` after the pre-advance (`exec_drw_of_fits`); the display is
`pixel_drawn` and the flag `hit_drawn`. -/
theorem drawXorsTheClippedSprite : Obligations.DrawXorsTheClippedSprite := by
  intro x y n s range
  have flag (r : Reg) := s.advance.getV_setFlag (s.drawn x y n).hit r
  have frame := keepsBut_trans (keepsBut_trans (keepsBut_trans (keepsBut_advance s)
    (keepsBut_setFlag _ (s.drawn x y n).hit)) (keepsBut_setDisplay _ (s.drawn x y n).display)) (keepsBut_setDrawFlag _ true)
  refine ⟨_, exec_drw_of_fits x y (fits_of_range range), rfl, rfl, fun px py hx hy => ?pixels, ?flagByte, ?collision,
    fun r hr => (flag r).trans (if_neg hr), frame⟩
  case pixels =>
    have drawn := pixel_drawn s x y n px py
    rwa [onGrid_of_lt hx hy, Bool.true_and] at drawn
  case flagByte =>
    rw [State.setDrawFlag_getV, State.setDisplay_getV, flag, if_pos rfl]
    exact flagByte_eq_zero_or_one _
  case collision =>
    rw [State.setDrawFlag_getV, State.setDisplay_getV, flag, if_pos rfl, flagByte_eq_one_iff, hit_drawn]

/-- Two displays with the same pixels are the same. -/
theorem display_ext {d d' : Display} (h : ∀ px py, px < 64 → py < 32 → pixel d px py = pixel d' px py) : d = d' := by
  ext1 py hy
  apply BitVec.eq_of_getMsbD_eq
  intro px hx
  have same := h px py hx hy
  rwa [pixel, dif_pos hy, pixel, dif_pos hy] at same

/-- The placed sprite depends on `I`, the coordinates and memory alone. -/
theorem spriteBit_congr {s t : State} {x y : Reg} {n : Nat} (hx : t.getV x = s.getV x) (hy : t.getV y = s.getV y)
    (hi : t.i = s.i) (hmem : ∀ a, t.readByte a = s.readByte a) (px py : Nat) :
    spriteBit t x y n px py = spriteBit s x y n px py := by
  have column : t.spriteColumn x = s.spriteColumn x := by rw [State.spriteColumn, hx, State.spriteColumn]
  have row : t.spriteRow y = s.spriteRow y := by rw [State.spriteRow, hy, State.spriteRow]
  rw [spriteBit, column, row, hi, hmem, spriteBit]

/-- Settles O49: the first draw leaves the sprite where it was, so the second flips the same pixels back; where the first found no
pixel under a sprite bit, it has left a 1 under every bit for the second to find. -/
theorem drawingTwiceRestoresTheDisplay : Obligations.DrawingTwiceRestoresTheDisplay := by
  intro x y n s t u range hx hy first second
  obtain ⟨t', first', -, -, pixelsT, flagT, collisionT, othersT, frameT⟩ := drawXorsTheClippedSprite x y n s range
  obtain rfl := eq_of_exec_eq_next first first'
  have keptI : t.i = s.i := frameT .i (by decide)
  have keptParams : t.params = s.params := frameT .params (by decide)
  have sprite := spriteBit_congr (n := n) (othersT x hx) (othersT y hy) keptI (frameT .mem (by decide))
  obtain ⟨u', second', -, -, pixelsU, -, collisionU, -, -⟩ := drawXorsTheClippedSprite x y n t (by rwa [keptI, keptParams])
  obtain rfl := eq_of_exec_eq_next second second'
  refine ⟨display_ext fun px py hpx hpy => ?restored, fun noHit => ?collides⟩
  case restored =>
    rw [pixelsU px py hpx hpy, pixelsT px py hpx hpy, sprite, Bool.xor_assoc, Bool.xor_self, Bool.xor_false]
  case collides =>
    rw [collisionU]
    refine exists₂_congr fun px py => and_congr_right fun hpx => and_congr_right fun hpy => ?_
    rw [sprite]
    refine and_iff_left_of_imp fun bit => ?_
    have dark : pixel s.display px py = false := by
      by_contra lit
      have hit := collisionT.mpr ⟨px, py, hpx, hpy, bit, Bool.eq_true_of_not_eq_false lit⟩
      rw [noHit] at hit
      cases hit
    rw [pixelsT px py hpx hpy, bit, dark]
    rfl

/-- Settles O51: no pixel is 1, so no sprite bit falls on one. -/
theorem drawOnBlankDisplayDoesNotCollide : Obligations.DrawOnBlankDisplayDoesNotCollide := by
  intro x y n s range blank
  obtain ⟨t, hexec, -, -, -, flag, collision, -, -⟩ := drawXorsTheClippedSprite x y n s range
  refine ⟨t, hexec, flag.resolve_right fun hit => ?_⟩
  obtain ⟨px, py, -, -, -, lit⟩ := collision.mp hit
  rw [blank] at lit
  cases lit

/-- The placed sprite has no bit on the grid outside the clipped rectangle. -/
theorem spriteBit_outside {s : State} {x y : Reg} {n px py : Nat}
    (h : ¬ (s.spriteColumn x ≤ px ∧ px ≤ min (s.spriteColumn x + 7) 63 ∧
      s.spriteRow y ≤ py ∧ py < min (s.spriteRow y + n) 32)) :
    (onGrid px py && spriteBit s x y n px py) = false := by
  rw [Bool.and_eq_false_iff, onGrid, spriteBit, Bool.and_eq_false_iff, decide_eq_false_iff_not, decide_eq_false_iff_not]
  by_cases grid : px < 64 ∧ py < 32
  · exact .inr (.inl (by omega))
  · exact .inl grid

/-- Settles O52: a fault leaves the display, and a drawing flips the pixels under sprite bits, of which there are none outside the
rectangle (`spriteBit_outside`). -/
theorem drawStaysInItsRectangle : Obligations.DrawStaysInItsRectangle := by
  intro x y n s t px py h outside
  obtain ⟨r, -, rfl⟩ | ⟨completes, -⟩ := raised_or_completed h
  · rfl
  · rw [drw_completed completes h, State.setDrawFlag_display, State.setDisplay_display, pixel_drawn, spriteBit_outside outside,
      Bool.xor_false]

/-- The default reset state with the pixels of the font's first row already drawn: `I` is 0, and so are both coordinates. -/
def rowAlreadyDrawn : State := State.reset.setDisplay (blankDisplay.set 0 0xF000000000000000)

/-- Refutes O50: on `rowAlreadyDrawn` the first draw of one row, 0xF0, erases it and the second finds nothing, though its bit at
`(0, 0)` is 1 and not clipped. -/
theorem not_secondDrawCollidesOnEveryDisplay : ¬ Obligations.SecondDrawCollidesOnEveryDisplay := by
  intro h
  have collides := h 0 0 1 rowAlreadyDrawn _ _ (.inr (by decide)) (by decide) (by decide) rfl rfl
  have bit : spriteBit rowAlreadyDrawn 0 0 1 0 0 = true := by decide
  exact absurd (collides.mpr ⟨0, 0, by decide, by decide, bit⟩) (by decide)

end Sys2Proof.Proofs
end

section
/-! Memory as a list: a write reads back (20_memory.md R51), and the canonical form is determined by what it reads. -/

namespace Sys2Proof.Proofs
open Sys2Proof Sys2Proof.Machine

/-- Settles O53: `memRead_memWrite`, for an address that memory has. -/
theorem readAfterWrite : Obligations.ReadAfterWrite := by
  intro p m a c b ha
  rw [memRead_memWrite]
  exact if_congr (and_iff_left ha) rfl rfl

section
variable {p : Params} {m m' : List Host.Cell} {cell cell' : Host.Cell} {lo lo' : Nat}

/-- Below its first address a canonical memory lists nothing. -/
theorem memRead_of_lt {a : Nat} (wf : memWfFrom p lo m = true) (h : a < lo) : memRead p m a = p.resetByte a := by
  induction m generalizing lo with
  | nil => rfl
  | cons cell m ih =>
    obtain ⟨⟨le, -, -⟩, wfTail⟩ := (memWfFrom_cons p lo cell m).mp wf
    rw [memRead, if_neg (by omega), ih wfTail (by omega)]

theorem memRead_head (cell : Host.Cell) (m : List Host.Cell) : memRead p (cell :: m) cell.1 = cell.2 := if_pos rfl

/-- A memory that reads alike at the first address of another lists an address no later: what is listed differs from the reset
contents. -/
theorem head_le_of_memRead_eq (wf : memWfFrom p lo (cell :: m) = true) (wf' : memWfFrom p lo' (cell' :: m') = true)
    (same : memRead p (cell :: m) cell.1 = memRead p (cell' :: m') cell.1) : cell'.1 ≤ cell.1 := by
  obtain ⟨⟨-, -, listed⟩, -⟩ := (memWfFrom_cons p lo cell m).mp wf
  obtain ⟨⟨-, inMem, listed'⟩, wfTail'⟩ := (memWfFrom_cons p lo' cell' m').mp wf'
  by_contra later
  have fromHead : memWfFrom p cell'.1 (cell' :: m') = true :=
    (memWfFrom_cons p ..).mpr ⟨⟨le_rfl, inMem, listed'⟩, wfTail'⟩
  rw [memRead_head, memRead_of_lt fromHead (Nat.lt_of_not_le later)] at same
  exact listed same

/-- A canonical memory that reads as reset everywhere lists nothing. -/
theorem not_memRead_eq_resetByte (wf : memWfFrom p lo (cell :: m) = true) :
    ¬ ∀ a, memRead p (cell :: m) a = p.resetByte a := by
  obtain ⟨⟨-, -, listed⟩, -⟩ := (memWfFrom_cons p lo cell m).mp wf
  intro asReset
  exact listed ((memRead_head cell m).symm.trans (asReset cell.1))

/-- Two canonical memories that read alike list the same first cell, and so, by induction, the same cells. -/
theorem eq_of_memRead_eq (wf : memWfFrom p lo m = true) (wf' : memWfFrom p lo' m' = true)
    (same : ∀ a, memRead p m a = memRead p m' a) : m = m' := by
  induction m generalizing lo lo' m' with
  | nil =>
    cases m' with
    | nil => rfl
    | cons cell' m' => exact absurd (fun a => (same a).symm) (not_memRead_eq_resetByte wf')
  | cons cell m ih =>
    cases m' with
    | nil => exact absurd same (not_memRead_eq_resetByte wf)
    | cons cell' m' =>
      have address : cell.1 = cell'.1 := Nat.le_antisymm
        (head_le_of_memRead_eq wf' wf (same cell'.1).symm) (head_le_of_memRead_eq wf wf' (same cell.1))
      have value : cell.2 = cell'.2 := by
        rw [← memRead_head (p := p) cell m, ← memRead_head (p := p) cell' m', ← address, same]
      obtain ⟨-, wfTail⟩ := (memWfFrom_cons p lo cell m).mp wf
      obtain ⟨-, wfTail'⟩ := (memWfFrom_cons p lo' cell' m').mp wf'
      rw [Prod.ext address value, ih wfTail wfTail' fun a => ?_]
      by_cases ha : cell.1 = a
      · rw [memRead_of_lt wfTail (by omega), memRead_of_lt wfTail' (by omega)]
      · have sameAt := same a
        rwa [memRead, if_neg ha, memRead, if_neg (address ▸ ha)] at sameAt

end

/-- Settles O54: `eq_of_memRead_eq` from address 0 upward. -/
theorem canonicalMemoryIsDetermined : Obligations.CanonicalMemoryIsDetermined :=
  fun _ _ _ wf wf' same => eq_of_memRead_eq wf wf' same

end Sys2Proof.Proofs
end

section
/-! Memory transfer (49_memory_transfer.md R176 to R178): the bytes FX33, FX55 and FX65 move, and that the fetch sees what they store
(20_memory.md R63). -/

namespace Sys2Proof.Proofs
open Sys2Proof Sys2Proof.Machine

section
variable {s t u : State} {x : Reg} {bs : List Byte}

/-- A byte of the range written holds its byte of the list. -/
theorem readByte_writeAtI_inside (h : s.i.toNat + bs.length ≤ s.params.memSize) {k : Nat} (hk : k < bs.length) :
    (s.writeAtI bs).readByte (s.i.toNat + k) = bs[k] := by
  rw [s.readByte_writeAtI bs _ h, if_pos ⟨Nat.le_add_right .., Nat.add_lt_add_left hk _⟩, Nat.add_sub_cancel_left,
    List.getD_eq_getElem _ _ hk]

/-- A byte outside the range written is as before. -/
theorem readByte_writeAtI_outside (h : s.i.toNat + bs.length ≤ s.params.memSize) {a : Nat}
    (ha : a < s.i.toNat ∨ s.i.toNat + bs.length ≤ a) : (s.writeAtI bs).readByte a = s.readByte a := by
  rw [s.readByte_writeAtI bs _ h, if_neg (by omega)]

/-- Two states with the same memory and parameters read alike. -/
theorem readByte_congr (hmem : u.mem = t.mem) (hparams : u.params = t.params) (a : Nat) : u.readByte a = t.readByte a := by
  rw [State.readByte, hmem, hparams, State.readByte]

theorem toNat_ofNat_byte_div (b : Byte) (d : Nat) : (BitVec.ofNat 8 (b.toNat / d)).toNat = b.toNat / d := by
  have fits : b.toNat / d < 2 ^ 8 := (Nat.div_le_self ..).trans_lt b.isLt
  rw [BitVec.toNat_ofNat, Nat.mod_eq_of_lt fits]

theorem toNat_ofNat_digit (n : Nat) : (BitVec.ofNat 8 (n % 10)).toNat = n % 10 := by
  rw [BitVec.toNat_ofNat, Nat.mod_eq_of_lt ((Nat.mod_lt n (by decide)).trans (by decide))]

theorem length_registers (s : State) (x : Reg) : (s.v.toList.take (x.val + 1)).length = x.val + 1 := by
  rw [List.length_take, Vector.length_toList, Nat.min_eq_left x.isLt]

theorem getElem_registers (s : State) {x r : Reg} (h : r.val < (s.v.toList.take (x.val + 1)).length) :
    (s.v.toList.take (x.val + 1))[r.val] = s.getV r := by
  rw [List.getElem_take, Vector.getElem_toList]
  rfl

end

/-- Settles O55: FX33 writes the three digits at `I` (`exec_storeBcd_of_fits`), each of which a byte holds; a range that leaves
memory is one raise. -/
theorem bcdStoresThreeDigits : Obligations.BcdStoresThreeDigits := by
  intro x s
  refine ⟨fun range => ?stores, fun out =>
    exists_next_of_exec_eq_raise (exec_storeBcd_of_not_fits x (fits_succ_eq_false_iff.mpr out))⟩
  case stores =>
    have digits (k : Nat) (hk : k < 3) :=
      readByte_writeAtI_inside (s := s.advance) (bs := bcdDigits (s.getV x)) range hk
    refine ⟨_, exec_storeBcd_of_fits x (fits_succ_iff.mpr range), rfl, ?hundreds, ?tens, ?ones, fun a ha => ?others,
      keepsBut_trans (keepsBut_advance s) (keepsBut_writeAtI _ _)⟩
    case hundreds => exact (congrArg BitVec.toNat (digits 0 (by decide))).trans (toNat_ofNat_byte_div ..)
    case tens => exact (congrArg BitVec.toNat (digits 1 (by decide))).trans (toNat_ofNat_digit _)
    case ones => exact (congrArg BitVec.toNat (digits 2 (by decide))).trans (toNat_ofNat_digit _)
    case others => exact readByte_writeAtI_outside (s := s.advance) (bs := bcdDigits (s.getV x)) range ha

/-- Settles O56: FX55 writes the registers at `I` and then advances `I` (`exec_storeRegs_of_fits`); a range that leaves memory is
one raise. -/
theorem storeWritesTheRegisters : Obligations.StoreWritesTheRegisters := by
  intro x s
  refine ⟨fun range => ?stores, fun out =>
    exists_next_of_exec_eq_raise (exec_storeRegs_of_not_fits (fits_succ_eq_false_iff.mpr out))⟩
  case stores =>
    have inMem : s.i.toNat + (s.v.toList.take (x.val + 1)).length ≤ s.params.memSize := by
      rw [length_registers]
      exact range
    refine ⟨_, exec_storeRegs_of_fits (fits_succ_iff.mpr range), rfl, fun r hr => ?stored, fun a ha => ?others,
      State.toNat_bumpI _ _, keepsBut_trans (keepsBut_trans (keepsBut_advance s) (keepsBut_writeAtI _ _)) (keepsBut_bumpI _ _)⟩
    case stored =>
      have hk : r.val < (s.v.toList.take (x.val + 1)).length := by
        rw [length_registers]
        exact Nat.lt_succ_of_le hr
      exact (readByte_writeAtI_inside (s := s.advance) inMem hk).trans (getElem_registers s hk)
    case others =>
      exact readByte_writeAtI_outside (s := s.advance) inMem (by rwa [length_registers])

/-- Settles O57: FX65 loads the bytes read at `I` into the registers and then advances `I` (`exec_loadRegs_of_fits`); a range that
leaves memory is one raise. -/
theorem loadReadsTheRegisters : Obligations.LoadReadsTheRegisters := by
  intro x s
  refine ⟨fun range => ?loads, fun out =>
    exists_next_of_exec_eq_raise (exec_loadRegs_of_not_fits (fits_succ_eq_false_iff.mpr out))⟩
  case loads =>
    refine ⟨_, exec_loadRegs_of_fits (fits_succ_iff.mpr range), rfl, fun r => ?loaded,
      State.toNat_bumpI _ _, keepsBut_trans (keepsBut_trans (keepsBut_advance s) (keepsBut_setRegs _ _)) (keepsBut_bumpI _ _)⟩
    case loaded =>
      rw [State.bumpI_getV, State.getV_setRegs, State.length_readAtI]
      by_cases hr : r ≤ x
      · have inRange : r.val < x.val + 1 := Nat.lt_succ_of_le hr
        rw [if_pos hr, if_pos inRange, getD_readAtI inRange]
      · have above : ¬ r.val < x.val + 1 := fun below => hr (Nat.le_of_lt_succ below)
        rw [if_neg hr, if_neg above, State.advance_getV]

section
variable {s t u : State} {x : Reg}

/-- FX55 leaves each register it stores in its byte, for any later state with that memory. -/
theorem readByte_after_storeRegs (range : s.i.toNat + x.val < s.params.memSize) (h : exec (.storeRegs x) s = .next t)
    (hmem : u.mem = t.mem) (hparams : u.params = t.params) {r : Reg} (hr : r ≤ x) :
    u.readByte (s.i.toNat + r.val) = s.getV r := by
  obtain ⟨t', h', -, stored, -⟩ := (storeWritesTheRegisters x s).1 range
  obtain rfl := eq_of_exec_eq_next h h'
  rw [readByte_congr hmem hparams, stored r hr]

/-- The two bytes of a fetch as numbers. -/
theorem exists_fetch_bytes (h : u.pc.toNat + 1 < u.params.memSize) : ∃ op, u.fetch = some op ∧
    op.toNat / 256 = (u.readByte u.pc.toNat).toNat ∧ op.toNat % 256 = (u.readByte (u.pc.toNat + 1)).toNat := by
  obtain ⟨op, hop, number⟩ := fetchIsBigEndian u h
  have low := (u.readByte (u.pc.toNat + 1)).isLt
  exact ⟨op, hop, by omega, by omega⟩

end

/-- Settles O58: the load reads back the bytes the store left (`readByte_after_storeRegs`). -/
theorem loadUndoesStore : Obligations.LoadUndoesStore := by
  intro x s t u range h hmem hparams hi
  have keptParams : t.params = s.params := params_of_exec h
  obtain ⟨w, hload, -, loaded, -⟩ := (loadReadsTheRegisters x u).1 (by rwa [hi, hparams, keptParams])
  refine ⟨w, hload, fun r hr => ?_⟩
  rw [loaded, if_pos hr, hi, readByte_after_storeRegs range h hmem hparams hr]

/-- Settles O59: the fetch reads the two bytes at `PC` (`exists_fetch_bytes`) from the memory the store left. -/
theorem storedBytesAreFetched : Obligations.StoredBytesAreFetched := by
  constructor
  · intro x s t u range h hmem hparams inBounds
    obtain ⟨op, hop, high, low⟩ := exists_fetch_bytes inBounds
    refine ⟨op, hop, fun r hr hpc => ?_, fun r hr hpc => ?_⟩
    · rw [high, hpc, readByte_after_storeRegs range h hmem hparams hr]
    · rw [low, hpc, readByte_after_storeRegs range h hmem hparams hr]
  · intro x s t u range h hmem hparams inBounds
    obtain ⟨t', h', -, hundreds, tens, ones, -⟩ := (bcdStoresThreeDigits x s).1 range
    obtain rfl := eq_of_exec_eq_next h h'
    obtain ⟨op, hop, high, low⟩ := exists_fetch_bytes inBounds
    rw [readByte_congr hmem hparams] at high low
    refine ⟨op, hop, fun hpc => ?_, fun hpc => ?_, fun hpc => ?_, fun hpc => ?_, fun hpc => ?_, fun hpc => ?_⟩
    · rw [high, hpc, hundreds]
    · rw [high, hpc, tens]
    · rw [high, hpc, ones]
    · rw [low, hpc, hundreds]
    · rw [low, hpc, tens]
    · rw [low, hpc, ones]

end Sys2Proof.Proofs
end
